-- ==== Sys2Proof/Word.lean ====
section
/-! DEFINITION. The words of the CT416: the bit-vector types of the fields that the manual treats as
numbers of a fixed width (00_scope, Conventions; R113, R174), and the record value of eight words. -/

namespace Sys2Proof

/-- One byte of a frame or of an SPI record (R113, R174, R175). -/
abbrev Byte := BitVec 8

/-- One 32-bit word of a record value (00_scope, "Values"). -/
abbrev Word := BitVec 32

/-- A record version, an unsigned 32-bit number (00_scope, "Versions"). -/
abbrev Version := BitVec 32

/-- A strapped station number, 0 to 15 (00_scope, "Stations"). Its order wraps from 15 to 0 (R100). -/
abbrev Station := BitVec 4

/-- The 16-bit key field of frames and records; 0 to 4095 name a key (R1). -/
abbrev Key := BitVec 16

/-- A set of stations as the bitmap of a CLOSE: bit `n` for station `n` (R113). -/
abbrev StationSet := BitVec 16

/-- An epoch, 0 to 255, wrapping (00_scope, "Epochs"). -/
abbrev Epoch := BitVec 8

/-- A Span tag: generation × 8 + index (R77). -/
abbrev Tag := BitVec 8

/-- A host tag, copied from a command record into its completion (R141). -/
abbrev HostTag := BitVec 8

/-- A watch cookie, 0 to 65535 (R157). -/
abbrev Cookie := BitVec 16

/-- A moment or a duration, in periods of the 50 MHz clock CLK (20 ns each). -/
abbrev Time := Nat

/-- A record value: words 0 to 7 of 32 bits each (R2). -/
abbrev Value := Vector Word 8

/-- The all-zero value (00_scope, "Values"). -/
def zeroValue : Value := #v[0, 0, 0, 0, 0, 0, 0, 0]

/-- Versions stop at 4,294,967,295 (R3, R6). -/
def topVersion : Version := 4294967295#32

end Sys2Proof
end

