-- ==== Sys2Proof/Syntax.lean ====
section
/-! DEFINITION. The commands: one constructor for each row of spec/opcode_table.json, in the table's order.
The rows name the steps of ONE station ("What each step holds"). The operands are what the step takes from
outside the station: the moment of the event where the station's own timers do not fix it, the bytes that
travelled, the levels that the other stations drive on the wired-OR lines, and the order of records wherever
the manual says that any order may arise. -/

namespace Sys2Proof

/-- When an SPI transaction took place: CS# fell and rose (R167). It acts at the rise. -/
structure Transaction where
  fell : Time
  rose : Time
  deriving DecidableEq, Repr

/-- A transaction with the moment its code byte was complete, when the status record is captured (R173). -/
structure Reading extends Transaction where
  code : Time
  deriving DecidableEq, Repr

/-- SPD± begins to be driven: when, and whether the station hears the start pattern or comes upon the frame in its
middle (R98). A station always hears the start of a frame of its own. -/
structure SpdStart where
  time : Time
  heard : Bool
  deriving DecidableEq, Repr

/-- One step of the station (a row of spec/opcode_table.json).

`t` is the moment of an event from outside, in CLK periods; a moment earlier than the station's clock
counts as the station's clock. The manual samples what an SPI transaction returns at the fall of CS# and at the end
of the code byte (R168, R172, R173), so these moments are operands beside the rise. `order` and `ahead` choose among
the orders that R171 leaves open, and every value is allowed (notes/assumptions/6.md). -/
inductive Instr where
  /-- RESET# falls at `t` (R116). -/
  | hardResetAssert (t : Time)
  /-- RESET# rises at `t` with STN[3:0] at `straps` (R97, R119). -/
  | hardResetRelease (t : Time) (straps : Station)
  /-- A PUT of code 1 ends; `record` holds the whole bytes received after the code (R169, R170). -/
  | putShort (spi : Transaction) (record : List Byte)
  /-- A PUT of code 2 ends; `record` holds the whole bytes received after the code (R169, R170). -/
  | putLong (spi : Transaction) (record : List Byte)
  /-- A POP ends after `clocked` whole bytes beyond the code byte, which was complete at `code` (R172). -/
  | pop (spi : Transaction) (clocked : Nat) (code : Time)
  /-- A STAT ends after `clocked` whole bytes beyond the code byte (R173). -/
  | stat (spi : Reading) (clocked : Nat)
  /-- A transaction with another code, or (`none`) one cut short before its code byte was complete, ends; `received`
  holds the whole bytes after the code byte (R167). -/
  | spiUnknownCode (spi : Reading) (code : Option Byte) (received : List Byte)
  /-- A command of unknown kind is at the head (R141). -/
  | badCommand
  /-- A READ is at the head (R146). -/
  | read
  /-- A WRITE is at the head (R148, R149). -/
  | write
  /-- A SWAP is at the head (R72, R148, R149). -/
  | swap
  /-- An ADD is at the head (R9, R148, R149). -/
  | add
  /-- A DELETE is at the head (R10, R148, R149). -/
  | delete
  /-- A RESERVE is at the head (R147). -/
  | reserve
  /-- A COMMIT is at the head (R68, R150). -/
  | commit
  /-- A RELEASE is at the head (R71, R150). -/
  | release
  /-- A FENCE is at the head (R151). -/
  | fence
  /-- A WATCH is at the head (R152, R159). -/
  | watch
  /-- An UNWATCH is at the head (R152, R160). -/
  | unwatch
  /-- A DROP is at the head (R153). -/
  | drop
  /-- A REFORM is at the head (R154). -/
  | reform
  /-- The idle timer reaches 200 µs (R103). -/
  | idleTimeout
  /-- An arbitration point at `t`; `req` holds the REQ lines that the other stations assert (R99, R100). -/
  | arbitrationPoint (t : Time) (req : StationSet)
  /-- SPD± begins to be driven, with or without its start pattern heard (R98). -/
  | frameStart (start : SpdStart)
  /-- 2 µs have passed since the arbitration point and its winner has begun no frame (R99). -/
  | emptyTenureEnd
  /-- SPD± is released: `bytes` is the frame as this station heard it, of which a station that missed the start
  reads nothing but the count (R98, R104). -/
  | frameHeard (bytes : List Byte)
  /-- The response window closes; `ack`, `rty` and `chk` are what the other stations assert (R106). -/
  | responseWindowClose (ack rty chk : Bool) (order : List Nat)
  /-- The outbound head, a DATA or REFUSE, has failed eight times (R30). -/
  | outboundDiscard
  /-- The outbound head, a PUBLISH, has been voided eight times (R33). -/
  | publishDropped
  /-- The entry has been answered RTY 16 times (R80). -/
  | retryLimit (entry : Fin 8)
  /-- The entry has failed eight sends (R81). -/
  | attemptLimit (entry : Fin 8)
  /-- The ready time of a QUEUED entry arrives (R78). -/
  | readyTime (entry : Fin 8)
  /-- The deadline of a SENT entry expires (R89). -/
  | deadlineExpiry (entry : Fin 8)
  /-- The member's silence count has reached 3 (R126). -/
  | memberSilent (member : Station) (order : List Nat)
  /-- The close timer expires (R122). -/
  | closeTimerExpiry
  /-- The re-close timer expires (R129). -/
  | recloseTimerExpiry
  /-- The inbound head is a FETCH, and is handled (R22, R26). -/
  | inboundFetchHandled
  /-- The inbound head is an update, and is handled (R23 to R26). -/
  | inboundUpdateHandled
  /-- The head of the fired list is delivered, ahead of `ahead` of the records that other blocks placed in
  the completion queue at this same event (R164, R171). -/
  | noticeDelivery (ahead : Nat)
  deriving DecidableEq, Repr

end Sys2Proof
end

