-- ==== Sys2Proof/Decode.lean ====
section
/-! DEFINITION. The table's rows give no bits: a command reaches the station as an event, not as an encoded
word, so no word spells a command. (The bytes of command records and of frames are operands of PUT and of
FRAME_HEARD; Machine/Operands.lean reads them.) -/

namespace Sys2Proof

/-- The command that a word of the table's bits spells: none, since no row of the table has bits. -/
def decodeTableWord (_nbits _w : Nat) : Option Instr :=
  none

end Sys2Proof
end

