-- ==== Sys2Proof/Config.lean ====
section
/-! DEFINITION. What one CT416 fixes: the sizes of its tables and queues (00_scope, Block Overview) and
the bound of the model's own settling loop. Every choice that the manual leaves open is an operand of a
command (see Syntax.lean), so there is no open constant here. -/

namespace Sys2Proof.Config

/-- Keys 0 to 4095 (R1). -/
def keyCount : Nat := 4096

/-- Places of the Home Engine's inbound queue (R15). -/
def inboundPlaces : Nat := 8

/-- Places of the Home Engine's outbound queue (R16). -/
def outboundPlaces : Nat := 8

/-- Places of the Host Port's command queue (R138, R169). -/
def commandPlaces : Nat := 16

/-- Places of the Host Port's completion queue, queued and reserved together (R169). -/
def completionPlaces : Nat := 32

/-- Failed sends after which a frame or a request is given up (R30, R33, R81). -/
def attemptLimit : Nat := 8

/-- RTY answers after which a request is given up (R80). -/
def retryLimit : Nat := 16

/-- Silences after which a member is SILENT (R126). -/
def silenceLimit : Nat := 3

/-- MODEL's own: how many rounds of follow-on steps `State.settle` may take. One event sets off at most
16 commands of the command queue, 24 inbound requests and 64 notices, each one part of a round. -/
def settleRounds : Nat := 128

end Sys2Proof.Config
end

