-- ==== Sys2Proof/Machine/State.lean ====
section
/-! DEFINITION. The state of one CT416 as plain data, block by block (00_scope, Block Overview), and its value
after reset. INVENTORY.md lists every field with its rule and its reset value. -/

namespace Sys2Proof.Machine

/-! ## Records and requests -/

/-- The committed fields of a record: present, version and value (R2). -/
structure TableRecord where
  present : Bool
  version : Version
  value : Value
  deriving DecidableEq, Repr

/-- A key that nobody has written: absent, version 0, all-zero value (R14). -/
def TableRecord.cleared : TableRecord :=
  { present := false, version := 0, value := zeroValue }

/-- A home record: the committed record and the publishing mark (R2). -/
structure HomeRecord where
  committed : TableRecord
  publishing : Bool
  deriving DecidableEq, Repr

/-- A home record after hard reset or a taken REFORM (R14). -/
def HomeRecord.cleared : HomeRecord :=
  { committed := .cleared, publishing := false }

/-- The home store in canonical form: keys strictly rising, no key listed with the cleared record. A key not
listed holds the cleared record (R14). -/
abbrev HomeStore := List (Nat × HomeRecord)

/-- The four kinds of update (1.4); a COMMIT travels as SWAP (R12). -/
inductive Op where
  | write | swap | add | delete
  deriving DecidableEq, Repr

/-- The content of an update: op, expected version, word index, value (R15, R76). Fields that the op does not
use are zero. -/
structure Update where
  op : Op
  expected : Version
  wordIndex : Byte
  value : Value
  deriving DecidableEq, Repr

/-- The thirteen commands of R141. -/
inductive CommandKind where
  | read | write | swap | add | delete | reserve | commit | release | fence | watch | unwatch | drop | reform
  deriving DecidableEq, Repr

/-- A command record as the host wrote it, with its length recorded beside it (R169, R174). -/
structure CommandRecord where
  long : Bool
  kind : Byte
  hostTag : HostTag
  key : Key
  slot : Byte
  flags : Byte
  wordIndex : Byte
  zeroByte : Byte
  expected : Version
  value : Value
  deriving DecidableEq, Repr

/-- The sixteen outcomes of R156. -/
inductive CmdOutcome where
  | ok | absent | versionMismatch | versionLimit | noReservation | lost | homeSilent | homeBusy | homeDown
  | spanFault | reformed | notMember | badCommand | badKey | badField | watchFull
  deriving DecidableEq, Repr

/-- The three notice reasons of R166. -/
inductive Reason where
  | changed | homeDown | reformed
  deriving DecidableEq, Repr

/-- A completion record; `value = none` is a clear value-valid flag (R88, R155, R175). -/
structure Completion where
  hostTag : HostTag
  outcome : CmdOutcome
  key : Key
  version : Version
  present : Bool
  value : Option Value
  deriving DecidableEq, Repr

/-- A notice record (R166, R175). -/
structure Notice where
  reason : Reason
  key : Key
  cookie : Cookie
  origin : Station
  record : TableRecord
  deriving DecidableEq, Repr

/-- A record of the completion queue (R171). -/
inductive QueueRecord where
  | completion (c : Completion)
  | notice (n : Notice)
  deriving DecidableEq, Repr

/-! ## Frames -/

/-- The eight frame kinds of R114. -/
inductive FrameKind where
  | roll | close | reform | fetch | update | data | publish | refuse
  deriving DecidableEq, Repr

/-- The fields of a Span frame (R113). `target` is the origin station in a PUBLISH, `key` the member bitmap in
a CLOSE; the value of a short frame is all zero. -/
structure Frame where
  code : BitVec 4
  sender : Station
  target : Station
  present : Bool
  reclose : Bool
  long : Bool
  epoch : Epoch
  tag : Tag
  key : Key
  aux : Byte
  wordIndex : Byte
  version : Version
  value : Value
  deriving DecidableEq, Repr

/-- Where a frame that this station sends comes from (R110, R111). -/
inductive FrameSource where
  | formation (kind : FrameKind)
  | outbound
  | request (entry : Fin 8) (tag : Tag)
  deriving DecidableEq, Repr

/-- A frame of this station's own, built at the arbitration point it won (R110). -/
structure OwnFrame where
  source : FrameSource
  frame : Frame
  deriving DecidableEq, Repr

/-! ## Pins and the Span Interface -/

/-- The pins and lines that are not derived from another block. -/
structure Pins where
  /-- RESET#: `some t` while low, since `t` (R116). -/
  resetLow : Option Time
  /-- The station number, STN[3:0] as sampled when RESET# rose (R97). -/
  station : Station
  /-- SPD±: `some t` while some station drives it, since `t` (R98). -/
  spdSince : Option Time
  /-- When SPD± was last released, but for a release inside an open window (R98): the latest window's beginning. -/
  spdReleased : Time
  /-- When RESET# last rose: a transaction whose CS# fell before is ignored (R167). -/
  resetRose : Time
  deriving DecidableEq, Repr

/-- The idle timer (R103): held while SPD± is driven and until the window closes, running, or past 200 µs. -/
inductive IdleTimer where
  | held
  | running (since : Time)
  | reached
  deriving DecidableEq, Repr

/-- How far the present tenure has come (R98, R99). -/
inductive Tenure where
  /-- No tenure that this station takes part in. -/
  | quiet
  /-- The arbitration point of `since` was won by `winner`; `own` is the frame this station chose, if it won. -/
  | won (winner : Station) (since : Time) (own : Option OwnFrame)
  /-- A frame is on SPD± and this station heard its start pattern; `winner = none` at a station that computed no
  winner for it (R103). -/
  | frame (winner : Option Station) (own : Option OwnFrame)
  /-- The response window; `heard = none` when the start pattern was missed, or the frame belonged to no tenure. -/
  | window (winner : Option Station) (own : Option OwnFrame) (heard : Option (List Byte))
  deriving DecidableEq, Repr

/-- SPD± driven inside an open response window, which the manual does not name (notes/assumptions/29.md). -/
inductive Intrusion where
  /-- SPD± has not been driven since the window opened. -/
  | absent
  /-- SPD± is driven; `heard` says whether the station heard the start pattern. -/
  | driven (heard : Bool)
  /-- SPD± was released at `since`; `heard` holds the bytes of a frame whose start pattern the station heard. -/
  | released (since : Time) (heard : Option (List Byte))
  deriving DecidableEq, Repr

/-- The Span Interface (chapter 6). -/
structure SpanInterface where
  synced : Bool
  /-- The last winner; none until sync (R116). -/
  lastWinner : Option Station
  idleTimer : IdleTimer
  tenure : Tenure
  /-- The latest tenure stayed empty and no other has followed: a start pattern now belongs to none (R99). -/
  afterEmpty : Bool
  /-- MODEL's own: SPD± driven inside the open response window (R103; notes/assumptions/29.md). -/
  intruder : Intrusion
  /-- This station's own REQ line (R102). -/
  req : Bool
  /-- The own REQ line as it stood before the close of the window at the given moment; it is what the
  arbitration point at that close reads (R102). -/
  reqAtClose : Option (Time × Bool)
  /-- The response lines this station drives (R104). -/
  ack : Bool
  rty : Bool
  chk : Bool
  deriving DecidableEq, Repr

/-! ## Formation Controller -/

/-- Station states (chapter 7). -/
inductive StationState where
  | listen | rolled | member | excluded
  deriving DecidableEq, Repr

/-- Member health (R125). -/
inductive Health where
  | up | silent | lost
  deriving DecidableEq, Repr

/-- One entry of the member table (R125). -/
structure Member where
  station : Station
  rank : Nat
  health : Health
  silence : Nat
  /-- MODEL's own: the moment of the latest evidence, against which a silence of the same moment counts nothing
  (R126; notes/assumptions/15.md). -/
  evidenceAt : Option Time
  deriving DecidableEq, Repr

/-- A queued CLOSE (R118). -/
structure CloseFrame where
  reclose : Bool
  bitmap : StationSet
  epoch : Epoch
  deriving DecidableEq, Repr

/-- The Formation Controller (R118) and the REFORM commands it holds (R134). -/
structure FormationController where
  state : StationState
  /-- Own epoch; in EXCLUDED state the heard epoch. -/
  epoch : Epoch
  proposal : Epoch
  rollList : StationSet
  highest : Epoch
  closeTimer : Option Time
  recloseTimer : Option Time
  members : List Member
  lateRoll : Bool
  /-- Queued REFORM with its epoch. -/
  reform : Option Epoch
  /-- Queued ROLL with its proposal. -/
  roll : Option Epoch
  /-- Queued formation CLOSE or re-close. -/
  close : Option CloseFrame
  /-- Host tags of the REFORM commands handed over and not yet complete, oldest first. -/
  reformTags : List HostTag
  deriving DecidableEq, Repr

/-! ## Home Engine -/

/-- Whence a request came into the inbound queue (R15). -/
inductive RequestSource where
  | span | own
  deriving DecidableEq, Repr

/-- What the request asks (R15). -/
inductive HomeRequest where
  | fetch
  | update (u : Update)
  deriving DecidableEq, Repr

/-- An entry of the inbound queue (R15). -/
structure InboundEntry where
  source : RequestSource
  request : HomeRequest
  key : Key
  requester : Station
  tag : Tag
  deriving DecidableEq, Repr

/-- An entry of the outbound queue: the frame, its attempt count, and for a PUBLISH whether its origin is
LOCAL (R16). The provisional record is the one the frame carries. -/
structure OutboundEntry where
  frame : Frame
  attempts : Nat
  localOrigin : Bool
  deriving DecidableEq, Repr

/-- The Home Engine (2.1). -/
structure HomeEngine where
  store : HomeStore
  inbound : List InboundEntry
  /-- A place is held for the request frame whose window is open (R18). -/
  heldPlace : Bool
  outbound : List OutboundEntry
  deriving DecidableEq, Repr

/-! ## Copy Table and Reservation Unit -/

/-- State of a copy entry (R39). -/
inductive CopyState where
  | free | filling | valid
  deriving DecidableEq, Repr

/-- A copy entry (R39). -/
structure CopyEntry where
  state : CopyState
  key : Key
  record : TableRecord
  age : Nat
  deriving DecidableEq, Repr

/-- A FREE entry, every field cleared (R42, R57). -/
def CopyEntry.cleared : CopyEntry :=
  { state := .free, key := 0, record := .cleared, age := 0 }

/-- The four ways of a group (R39). -/
abbrev CopyGroup := Vector CopyEntry 4

/-- The 64 groups of the Copy Table (R39). -/
abbrev CopyTable := Vector CopyGroup 64

/-- State of a reservation slot (R60). -/
inductive SlotState where
  | empty | held | lost | committing
  deriving DecidableEq, Repr

/-- A reservation slot (R60). -/
structure Slot where
  state : SlotState
  key : Key
  version : Version
  deriving DecidableEq, Repr

/-- A slot after hard reset (R74). -/
def Slot.cleared : Slot :=
  { state := .empty, key := 0, version := 0 }

/-! ## Request Tracker -/

/-- Kind of a pending entry (R76); `own` is the manual's LOCAL. -/
inductive EntryKind where
  | fetch | update | own
  deriving DecidableEq, Repr

/-- State of a pending entry (R76). -/
inductive EntryState where
  | queued | sent | waitHome
  deriving DecidableEq, Repr

/-- A pending entry in use (R76). -/
structure PendingEntry where
  kind : EntryKind
  key : Key
  home : Station
  command : CommandKind
  hostTag : HostTag
  slot : Option (Fin 4)
  update : Option Update
  tag : Tag
  state : EntryState
  attempts : Nat
  retries : Nat
  readyTime : Time
  /-- 1 ms after the frame was taken; SENT only. -/
  deadline : Option Time
  /-- MODEL's own: whether the latest failed send was voided, which decides the eighth failure (R81). -/
  lastVoided : Bool
  deriving DecidableEq, Repr

/-- The Request Tracker (R76). -/
structure RequestTracker where
  entries : Vector (Option PendingEntry) 8
  generations : Vector (BitVec 5) 8
  nextIndex : Fin 8
  deriving DecidableEq, Repr

/-! ## Command Engine, Watch Unit, Host Port -/

/-- Status of the head of the command queue (R138). -/
inductive HeadStatus where
  | none | testing | waiting
  deriving DecidableEq, Repr

/-- The Command Engine's two items of state (R138). -/
structure CommandEngine where
  headStatus : HeadStatus
  fenceWait : Bool
  deriving DecidableEq, Repr

/-- State of a watch entry (R157). -/
inductive WatchState where
  | free | armed | fired
  deriving DecidableEq, Repr

/-- The fired fields of a watch entry (R157). -/
structure Firing where
  reason : Reason
  origin : Station
  record : TableRecord
  deriving DecidableEq, Repr

/-- The fired fields in FREE and ARMED states (R157). -/
def Firing.cleared : Firing :=
  { reason := .changed, origin := 0, record := .cleared }

/-- A watch entry (R157). -/
structure WatchEntry where
  state : WatchState
  key : Key
  cookie : Cookie
  every : Bool
  firing : Firing
  deriving DecidableEq, Repr

/-- A FREE watch entry (R157). -/
def WatchEntry.cleared : WatchEntry :=
  { state := .free, key := 0, cookie := 0, every := false, firing := .cleared }

/-- The Watch Unit (R157, R158). -/
structure WatchUnit where
  entries : Vector WatchEntry 32
  fired : List (Fin 32)
  deriving DecidableEq, Repr

/-- What the Host Port shows from a moment on: the port status byte (R168) and the status record (R173). -/
structure Sample where
  since : Time
  status : Byte
  record : List Byte
  deriving DecidableEq, Repr

/-- The Host Port (chapter 10). -/
structure HostPort where
  commands : List CommandRecord
  completions : List QueueRecord
  outstanding : Nat
  putRefused : Bool
  torn : Bool
  /-- The bytes shifted out on SDO in the latest transaction (R167). -/
  sdo : List Byte
  /-- MODEL's own: how many records at the tail of the completion queue the Request Tracker and the Formation
  Controller placed there at the present event (R171). -/
  fresh : Nat
  deriving DecidableEq, Repr

/-! ## The station -/

/-- One station, and the queue of the commands that wait for it. -/
structure State where
  /-- The station's time. -/
  clock : Time
  pins : Pins
  span : SpanInterface
  formation : FormationController
  home : HomeEngine
  copies : CopyTable
  slots : Vector Slot 4
  tracker : RequestTracker
  engine : CommandEngine
  watch : WatchUnit
  port : HostPort
  /-- MODEL's own: what the Host Port has shown since the latest transaction, newest first. A transaction returns
  what it showed at the fall of CS# and at the end of the code byte (R168, R172, R173). -/
  seen : List Sample
  pending : List Instr
  deriving DecidableEq, Repr

/-- Why a step stops with a fault. -/
inductive Fault where
  /-- Raised by HARD_RESET_RELEASE when RESET# was low for less than the minimum of 20 CLK cycles (Pins and
  Ratings): the manual gives such a pulse no effect. Safe: the machine stops where a chip may do anything. -/
  | resetPulseTooShort
  deriving DecidableEq, Repr

/-- Why a step has no meaning. -/
inductive Refusal where
  /-- Raised by an arm of `exec` that has no meaning yet. Safe. No arm answers it. -/
  | notModelled (mnemonic : String)
  deriving DecidableEq, Repr

/-! ## Reset -/

/-- The Span Interface when RESET# rises (R116); the idle timer is held if SPD± is driven then. -/
def SpanInterface.afterReset (now : Time) (spdSince : Option Time) : SpanInterface :=
  { synced := false
    lastWinner := none
    idleTimer := if spdSince.isSome then .held else .running now
    tenure := .quiet
    afterEmpty := false
    intruder := .absent
    req := false
    reqAtClose := none
    ack := false
    rty := false
    chk := false }

/-- The Formation Controller after hard reset (R118). -/
def FormationController.afterReset : FormationController :=
  { state := .listen
    epoch := 0
    proposal := 0
    rollList := 0
    highest := 0
    closeTimer := none
    recloseTimer := none
    members := []
    lateRoll := false
    reform := none
    roll := none
    close := none
    reformTags := [] }

/-- The Home Engine after hard reset (R36). -/
def HomeEngine.afterReset : HomeEngine :=
  { store := [], inbound := [], heldPlace := false, outbound := [] }

/-- The Copy Table after hard reset: every entry FREE with age 0 (R57). -/
def CopyTable.afterReset : CopyTable :=
  Vector.replicate 64 (Vector.replicate 4 CopyEntry.cleared)

/-- The slots after hard reset (R74). -/
def Slot.afterReset : Vector Slot 4 :=
  Vector.replicate 4 Slot.cleared

/-- The Request Tracker after hard reset (R96). -/
def RequestTracker.afterReset : RequestTracker :=
  { entries := Vector.replicate 8 none, generations := Vector.replicate 8 0, nextIndex := 0 }

/-- The Command Engine after hard reset (R138). -/
def CommandEngine.afterReset : CommandEngine :=
  { headStatus := .none, fenceWait := false }

/-- The Watch Unit after hard reset (R157, R158). -/
def WatchUnit.afterReset : WatchUnit :=
  { entries := Vector.replicate 32 WatchEntry.cleared, fired := [] }

/-- The Host Port after hard reset (R176). -/
def HostPort.afterReset : HostPort :=
  { commands := []
    completions := []
    outstanding := 0
    putRefused := false
    torn := false
    sdo := []
    fresh := 0 }

/-- Every block at its reset value, at the moment RESET# rises (R119). -/
def State.afterReset (now : Time) (straps : Station) (spdSince : Option Time) (spdReleased : Time)
    (pending : List Instr) : State :=
  { clock := now
    pins :=
      { resetLow := none, station := straps, spdSince := spdSince, spdReleased := spdReleased, resetRose := now }
    span := .afterReset now spdSince
    formation := .afterReset
    home := .afterReset
    copies := .afterReset
    slots := Slot.afterReset
    tracker := .afterReset
    engine := .afterReset
    watch := .afterReset
    port := .afterReset
    seen := []
    pending := pending }

/-- The machine right after hard reset. The straps are the board's: 0 here is a DESIGN CHOICE
(notes/assumptions/1.md); the clock counts from this moment and SPD± is quiet. -/
def State.reset : State :=
  State.afterReset 0 0 none 0 []

end Sys2Proof.Machine
end

