-- ==== Sys2Proof/Machine/Copies.lean ====
section
/-! DEFINITION. The Copy Table's operations: ages, claiming, freeing and updating of ways (chapter 3). -/

namespace Sys2Proof.Machine

/-- The ways of a group, in ascending number. -/
def allWays : List (Fin 4) :=
  [0, 1, 2, 3]

/-- Key k may be held only in group k mod 64 (R39). -/
def groupOf (k : Key) : Fin 64 :=
  ⟨k.toNat % 64, Nat.mod_lt _ (by decide)⟩

/-- An entry is occupied when it is FILLING or VALID (R39). -/
def CopyEntry.occupied (e : CopyEntry) : Bool :=
  e.state != .free

/-- Moving way `w` to the front of the order of use. Every other occupied entry younger than `w` was rises by
1; a FREE way had no place in the order, so every other occupied entry rises (R41). -/
def CopyGroup.touch (g : CopyGroup) (w : Fin 4) : CopyGroup :=
  let old := if g[w].occupied then g[w].age else 4
  g.mapIdx fun i e =>
    if i = w.val then { e with age := 0 }
    else if e.occupied && decide (e.age < old) then { e with age := e.age + 1 }
    else e

/-- Freeing way `w`: older occupied entries fall by 1 and the way is cleared (R42). -/
def CopyGroup.release (g : CopyGroup) (w : Fin 4) : CopyGroup :=
  let old := g[w].age
  g.mapIdx fun i e =>
    if i = w.val then .cleared
    else if e.occupied && decide (old < e.age) then { e with age := e.age - 1 }
    else e

/-- The FREE way with the lowest number (R44). -/
def CopyGroup.firstFree (g : CopyGroup) : Option (Fin 4) :=
  allWays.find? fun w => g[w].state == .free

/-- The VALID way with the highest age (R44). -/
def CopyGroup.oldestValid (g : CopyGroup) : Option (Fin 4) :=
  allWays.foldl
    (fun best w =>
      if g[w].state == .valid then
        match best with
        | some b => if g[b].age < g[w].age then some w else some b
        | none => some w
      else best)
    none

/-- The way that a miss claims, if any (R44, R45). -/
def CopyGroup.claimable (g : CopyGroup) : Option (Fin 4) :=
  match g.firstFree with
  | some w => some w
  | none => g.oldestValid

/-- The way of a group that holds a key. -/
def CopyGroup.wayOf (g : CopyGroup) (k : Key) : Option (Fin 4) :=
  allWays.find? fun w => g[w].occupied && g[w].key == k

/-- Claiming a way for a key: a touch, and the way is FILLING without content; with no way to claim the group
stays as it is (R44, R45). -/
def CopyGroup.claim (g : CopyGroup) (k : Key) : CopyGroup :=
  match g.claimable with
  | some w => (g.touch w).set w { state := .filling, key := k, record := .cleared, age := 0 }
  | none => g

/-- Freeing every occupied way whose key satisfies `p`, one by one (R42, R55). -/
def CopyGroup.releaseWhere (g : CopyGroup) (p : Key → Bool) : CopyGroup :=
  allWays.foldl (fun g w => if g[w].occupied && p g[w].key then g.release w else g) g

/-- The entry of a key, if it has one (R40). -/
def CopyTable.entry (t : CopyTable) (k : Key) : Option CopyEntry :=
  (t[groupOf k].wayOf k).map fun w => t[groupOf k][w]

/-- The record of a key's VALID copy. -/
def CopyTable.validRecord (t : CopyTable) (k : Key) : Option TableRecord :=
  match t.entry k with
  | some e => if e.state = .valid then some e.record else none
  | none => none

/-- The key has a FILLING entry. -/
def CopyTable.filling (t : CopyTable) (k : Key) : Bool :=
  match t.entry k with
  | some e => e.state == .filling
  | none => false

/-- Touching a key's entry (R41). -/
def CopyTable.touchKey (t : CopyTable) (k : Key) : CopyTable :=
  match t[groupOf k].wayOf k with
  | some w => t.set (groupOf k) (t[groupOf k].touch w)
  | none => t

/-- Claiming a way for a key that has no entry (R44, R45). -/
def CopyTable.claimKey (t : CopyTable) (k : Key) : CopyTable :=
  t.set (groupOf k) (t[groupOf k].claim k)

/-- Giving a key's entry a state and a record, its age kept (R49 to R52). -/
def CopyTable.putRecord (t : CopyTable) (k : Key) (r : TableRecord) : CopyTable :=
  match t[groupOf k].wayOf k with
  | some w =>
    t.set (groupOf k) (t[groupOf k].set w { t[groupOf k][w] with state := .valid, record := r })
  | none => t

/-- DROP: a VALID entry of the key becomes FREE (R56). -/
def CopyTable.dropKey (t : CopyTable) (k : Key) : CopyTable :=
  match t[groupOf k].wayOf k with
  | some w => if t[groupOf k][w].state = .valid then t.set (groupOf k) (t[groupOf k].release w) else t
  | none => t

/-- A fetch ends without content: a FILLING entry becomes FREE, a VALID one stays (R54). -/
def CopyTable.endFilling (t : CopyTable) (k : Key) : CopyTable :=
  match t[groupOf k].wayOf k with
  | some w => if t[groupOf k][w].state = .filling then t.set (groupOf k) (t[groupOf k].release w) else t
  | none => t

/-- A home leaves UP: every entry of its keys becomes FREE (R55). -/
def CopyTable.releaseWhere (t : CopyTable) (p : Key → Bool) : CopyTable :=
  t.mapIdx fun _ g => g.releaseWhere p

/-- What a matched DATA leaves in the table, and the record its command completes with (R49, R50). -/
def CopyTable.takeData (t : CopyTable) (k : Key) (r : TableRecord) : CopyTable × TableRecord :=
  match t.entry k with
  | some e =>
    if e.state = .valid ∧ r.version < e.record.version then (t, e.record) else (t.putRecord k r, r)
  | none => (t, r)

/-- What a taken PUBLISH leaves in the table: a FILLING entry is filled, a VALID one moves to a higher version
only (R51 to R53). -/
def CopyTable.takePublish (t : CopyTable) (k : Key) (r : TableRecord) : CopyTable :=
  match t.entry k with
  | some e =>
    if e.state = .valid ∧ ¬ e.record.version < r.version then t else t.putRecord k r
  | none => t

end Sys2Proof.Machine
end

