-- ==== Sys2Proof/Machine/Timing.lean ====
section
/-! DEFINITION. The Span's and the formation's times, in CLK periods of 20 ns (00_scope, "Time"; Pins and
Ratings: all internal timers derive from the 50 MHz clock). -/

namespace Sys2Proof.Machine.Timing

/-- One microsecond. -/
def us : Time := 50

/-- Arbitration point to start of frame, 0.2 µs (R98). -/
def frameLead : Time := 10

/-- Start pattern of 8 bit times and `n` frame bytes at 100 Mbit/s (R98). -/
def frameTime (n : Nat) : Time := 4 + 4 * n

/-- The response window, 1 µs (R98). -/
def responseWindow : Time := 1 * us

/-- An empty tenure ends 2 µs after its arbitration point (R99). -/
def emptyTenure : Time := 2 * us

/-- The idle timer's limit, 200 µs (R103). -/
def idleLimit : Time := 200 * us

/-- From 199 µs of idle Span on, a first candidate waits for the idle limit (R102). -/
def idleHold : Time := 199 * us

/-- The pause after an RTY answer, 20 µs (R80). -/
def retryPause : Time := 20 * us

/-- The deadline of a taken request, 1 ms (R79). -/
def answerDeadline : Time := 1000 * us

/-- The close delay at rank `r` of the roll list, 6 ms + 0.5 ms × r (R122). -/
def closeDelay (r : Nat) : Time := 6000 * us + 500 * us * r

/-- The re-close delay, 100 µs + 300 µs × r (R128). -/
def recloseDelay (r : Nat) : Time := 100 * us + 300 * us * r

/-- Minimum low time of RESET#, 20 CLK cycles (Pins and Ratings). -/
def resetLowTime : Time := 20

end Sys2Proof.Machine.Timing
end

