-- ==== Sys2Proof/Machine/Membership.lean ====
section
/-! DEFINITION. The member table and what is read from it: ranks, homes, health and bitmaps (R4, R121, R122,
R125, R126, R137). -/

namespace Sys2Proof.Machine

/-- Whether a station is in a set. -/
def inSet (b : StationSet) (st : Station) : Bool :=
  b.getLsbD st.toNat

/-- The set with one station. -/
def stationBit (st : Station) : StationSet :=
  1#16 <<< st.toNat

/-- Every station number, ascending. -/
def allStations : List Station :=
  [0, 1, 2, 3, 4, 5, 6, 7, 8, 9, 10, 11, 12, 13, 14, 15]

/-- The stations of a set, ascending. -/
def stationsOf (b : StationSet) : List Station :=
  allStations.filter (inSet b)

/-- How many stations of a set have a lower number (R122). -/
def rankIn (b : StationSet) (st : Station) : Nat :=
  ((stationsOf b).filter (fun x => decide (x.toNat < st.toNat))).length

/-- The member table built from a CLOSE's bitmap: ranks in ascending station number, all UP (R125). -/
def membersOf (b : StationSet) : List Member :=
  (stationsOf b).map fun st => { station := st, rank := rankIn b st, health := .up, silence := 0, evidenceAt := none }

/-- The entry of a station in the member table. -/
def FormationController.find (f : FormationController) (st : Station) : Option Member :=
  f.members.find? (fun m => m.station == st)

/-- The home of a key: the member whose rank is the key modulo P (R4). -/
def FormationController.homeOf (f : FormationController) (k : Key) : Option Member :=
  f.members.find? (fun m => m.rank == k.toNat % f.members.length)

/-- Keys homed at the member of rank `r` (R4, R127). -/
def FormationController.homedAtRank (f : FormationController) (r : Nat) (k : Key) : Bool :=
  k.toNat % f.members.length == r

/-- Union of the members' bits. -/
def bitmapOf (ms : List Member) : StationSet :=
  ms.foldl (fun b m => b ||| stationBit m.station) 0

/-- The adopted bitmap in MEMBER state, zero otherwise (R137). -/
def FormationController.memberBitmap (f : FormationController) : StationSet :=
  if f.state = .member then bitmapOf f.members else 0

/-- The members that are UP in MEMBER state, zero otherwise (R137). -/
def FormationController.upBitmap (f : FormationController) : StationSet :=
  if f.state = .member then bitmapOf (f.members.filter (fun m => m.health == .up)) else 0

/-- The member table with one station's entry changed. -/
def FormationController.modify (f : FormationController) (st : Station) (g : Member → Member) :
    FormationController :=
  { f with members := f.members.map (fun m => if m.station = st then g m else m) }

/-- A silence at the moment `now` raises the count of an UP member by 1, up to 3; one that falls together with
evidence leaves the count at 0, in either order (R126). -/
def Member.silenced (now : Time) (m : Member) : Member :=
  match m.health with
  | .up =>
    if m.evidenceAt = some now then m else { m with silence := min (m.silence + 1) Config.silenceLimit }
  | .silent => m
  | .lost => m

/-- Evidence of life at the moment `now` returns an UP or SILENT member to UP with count 0 (R126). -/
def Member.alive (now : Time) (m : Member) : Member :=
  match m.health with
  | .up => { m with silence := 0, evidenceAt := some now }
  | .silent => { m with silence := 0, health := .up, evidenceAt := some now }
  | .lost => m

/-- The member's count has reached 3 and its health is still UP: MEMBER_SILENT is due (R126). -/
def Member.dueSilent (m : Member) : Bool :=
  m.health == .up && decide (Config.silenceLimit ≤ m.silence)

/-- `r` of R128: UP members with a lower number than this station that are not the roller. -/
def FormationController.recloseRank (f : FormationController) (self roller : Station) : Nat :=
  (f.members.filter
    (fun m => m.health == .up && decide (m.station.toNat < self.toNat) && m.station != roller)).length

end Sys2Proof.Machine
end

