-- ==== Sys2Proof/Machine/Operands.lean ====
section
/-! DEFINITION. The operands as bytes: little-endian numbers, the Span frame (R113 to R115) with its CRC-16 and
check errors (R105), and the command, completion and notice records of the host port (R174, R175). -/

namespace Sys2Proof.Machine

/-! ## Byte order -/

/-- Byte `i` of a record, 0 beyond its end. -/
def byteAt (bs : List Byte) (i : Nat) : Byte :=
  bs.getD i 0

/-- The little-endian 16-bit number at byte `i`. -/
def le16 (bs : List Byte) (i : Nat) : BitVec 16 :=
  byteAt bs (i + 1) ++ byteAt bs i

/-- The little-endian 32-bit number at byte `i`. -/
def le32 (bs : List Byte) (i : Nat) : BitVec 32 :=
  le16 bs (i + 2) ++ le16 bs i

/-- The eight little-endian words from byte `i` on (00_scope, "Values"). -/
def leValue (bs : List Byte) (i : Nat) : Value :=
  #v[le32 bs i, le32 bs (i + 4), le32 bs (i + 8), le32 bs (i + 12), le32 bs (i + 16), le32 bs (i + 20),
    le32 bs (i + 24), le32 bs (i + 28)]

/-- A 16-bit number as two bytes, low byte first. -/
def bytes16 (x : BitVec 16) : List Byte :=
  [x.extractLsb' 0 8, x.extractLsb' 8 8]

/-- A 32-bit number as four bytes, low byte first. -/
def bytes32 (x : BitVec 32) : List Byte :=
  [x.extractLsb' 0 8, x.extractLsb' 8 8, x.extractLsb' 16 8, x.extractLsb' 24 8]

/-- A value as 32 bytes, word 0 first. -/
def valueBytes (v : Value) : List Byte :=
  bytes32 v[0] ++ bytes32 v[1] ++ bytes32 v[2] ++ bytes32 v[3] ++ bytes32 v[4] ++ bytes32 v[5] ++
    bytes32 v[6] ++ bytes32 v[7]

/-- The high four bits of a byte. -/
def highNibble (b : Byte) : BitVec 4 :=
  b.extractLsb' 4 4

/-- The low four bits of a byte. -/
def lowNibble (b : Byte) : BitVec 4 :=
  b.extractLsb' 0 4

/-- A key field names a key when it is 0 to 4095 (R1). -/
def keyInRange (k : Key) : Bool :=
  decide (k.toNat < Config.keyCount)

/-! ## CRC-16 -/

/-- One shift of the CRC register, with the reflected generator A001 (R113). -/
def crcShift (c : BitVec 16) : BitVec 16 :=
  if c.getLsbD 0 then (c >>> 1) ^^^ 0xA001#16 else c >>> 1

/-- One covered byte: combined into the low eight bits, then eight shifts (R113). -/
def crcByte (c : BitVec 16) (b : Byte) : BitVec 16 :=
  Nat.iterate crcShift 8 (c ^^^ b.setWidth 16)

/-- The CRC-16 of R113: preset to all ones, no final exclusive-or. -/
def crc16 (bs : List Byte) : BitVec 16 :=
  bs.foldl crcByte 0xFFFF#16

/-! ## Codes -/

/-- Frame kind codes (R114). -/
def FrameKind.code : FrameKind → BitVec 4
  | .roll => 1
  | .close => 2
  | .reform => 3
  | .fetch => 8
  | .update => 9
  | .data => 10
  | .publish => 11
  | .refuse => 12

/-- The kind a code names; codes 0, 4 to 7 and 13 to 15 are unknown (R114). -/
def FrameKind.ofCode (c : BitVec 4) : Option FrameKind :=
  if c = 1 then some .roll
  else if c = 2 then some .close
  else if c = 3 then some .reform
  else if c = 8 then some .fetch
  else if c = 9 then some .update
  else if c = 10 then some .data
  else if c = 11 then some .publish
  else if c = 12 then some .refuse
  else none

/-- Op codes of the aux field (R115). -/
def Op.code : Op → Byte
  | .write => 1
  | .swap => 2
  | .add => 3
  | .delete => 4

/-- The op an aux code names (R115). -/
def Op.ofCode (c : Byte) : Option Op :=
  if c = 1 then some .write
  else if c = 2 then some .swap
  else if c = 3 then some .add
  else if c = 4 then some .delete
  else none

/-- Reason codes of a REFUSE (R115); only three outcomes are carried by a REFUSE. -/
def refuseCode : CmdOutcome → Byte
  | .versionMismatch => 1
  | .versionLimit => 2
  | _ => 3

/-- The outcome that the reason of a REFUSE names (R115). -/
def refuseOutcome (c : Byte) : Option CmdOutcome :=
  if c = 1 then some .versionMismatch
  else if c = 2 then some .versionLimit
  else if c = 3 then some .spanFault
  else none

/-- Outcome codes of completion records (R156). -/
def CmdOutcome.code : CmdOutcome → Byte
  | .ok => 0
  | .absent => 1
  | .versionMismatch => 2
  | .versionLimit => 3
  | .noReservation => 4
  | .lost => 5
  | .homeSilent => 6
  | .homeBusy => 7
  | .homeDown => 8
  | .spanFault => 9
  | .reformed => 10
  | .notMember => 11
  | .badCommand => 12
  | .badKey => 13
  | .badField => 14
  | .watchFull => 15

/-- Reason codes of notice records (R166). -/
def Reason.code : Reason → Byte
  | .changed => 1
  | .homeDown => 2
  | .reformed => 3

/-- Command kind codes (R141). -/
def CommandKind.code : CommandKind → Byte
  | .read => 1
  | .write => 2
  | .swap => 3
  | .add => 4
  | .delete => 5
  | .reserve => 6
  | .commit => 7
  | .release => 8
  | .fence => 9
  | .watch => 10
  | .unwatch => 11
  | .drop => 12
  | .reform => 13

/-- The command a kind field names; 0 and 14 to 255 are unknown (R141). -/
def CommandKind.ofCode (c : Byte) : Option CommandKind :=
  if c = 1 then some .read
  else if c = 2 then some .write
  else if c = 3 then some .swap
  else if c = 4 then some .add
  else if c = 5 then some .delete
  else if c = 6 then some .reserve
  else if c = 7 then some .commit
  else if c = 8 then some .release
  else if c = 9 then some .fence
  else if c = 10 then some .watch
  else if c = 11 then some .unwatch
  else if c = 12 then some .drop
  else if c = 13 then some .reform
  else none

/-- The station state as the two bits of R168 and R173. -/
def StationState.code : StationState → BitVec 2
  | .listen => 0
  | .rolled => 1
  | .member => 2
  | .excluded => 3

/-! ## Frames -/

/-- The kind of a frame (R114). -/
def Frame.kind (f : Frame) : Option FrameKind :=
  FrameKind.ofCode f.code

/-- The record a DATA or PUBLISH carries (R12, R22). -/
def Frame.record (f : Frame) : TableRecord :=
  { present := f.present, version := f.version, value := f.value }

/-- DATA, PUBLISH, and UPDATE with op WRITE, SWAP or ADD are long (R113). -/
def Frame.mustBeLong (f : Frame) : Bool :=
  match f.kind with
  | some .data => true
  | some .publish => true
  | some .update => f.aux != Op.delete.code
  | _ => false

/-- A frame of the given kind with every other field zero (R114). -/
def Frame.blank (kind : FrameKind) (sender : Station) (epoch : Epoch) : Frame :=
  { code := kind.code
    sender := sender
    target := 0
    present := false
    reclose := false
    long := false
    epoch := epoch
    tag := 0
    key := 0
    aux := 0
    wordIndex := 0
    version := 0
    value := zeroValue }

/-- Bytes 0 to 11 of a frame, and 12 to 43 of a long one: what the CRC covers (R113). -/
def Frame.body (f : Frame) : List Byte :=
  [f.code ++ f.sender,
    f.target ++ (0#1 ++ BitVec.ofBool f.long ++ BitVec.ofBool f.reclose ++ BitVec.ofBool f.present),
    f.epoch, f.tag] ++ bytes16 f.key ++ [f.aux, f.wordIndex] ++ bytes32 f.version ++
    (if f.long then valueBytes f.value else [])

/-- A frame as its bytes, the CRC-16 appended low byte first (R113). -/
def Frame.bytes (f : Frame) : List Byte :=
  f.body ++ bytes16 (crc16 f.body)

/-- The fields of the frame that the bytes carry (R113). -/
def Frame.ofBytes (bs : List Byte) : Frame :=
  { code := highNibble (byteAt bs 0)
    sender := lowNibble (byteAt bs 0)
    target := highNibble (byteAt bs 1)
    present := (byteAt bs 1).getLsbD 0
    reclose := (byteAt bs 1).getLsbD 1
    long := (byteAt bs 1).getLsbD 2
    epoch := byteAt bs 2
    tag := byteAt bs 3
    key := le16 bs 4
    aux := byteAt bs 6
    wordIndex := byteAt bs 7
    version := le32 bs 8
    value := if bs.length = 46 then leValue bs 12 else zeroValue }

/-- A frame is intact when it has 14 or 46 bytes and its CRC-16 is correct (R101). -/
def frameIntact (bs : List Byte) : Bool :=
  (bs.length == 14 || bs.length == 46) && crc16 (bs.take (bs.length - 2)) == le16 bs (bs.length - 2)

/-- The check errors of R105 that depend on the fields of an intact frame alone. -/
def Frame.fieldError (f : Frame) (length : Nat) : Bool :=
  match f.kind with
  | none => true
  | some kind =>
    (f.long != f.mustBeLong) || ((length == 46) != f.mustBeLong) ||
      (match kind with
      | .fetch => !keyInRange f.key
      | .data => !keyInRange f.key
      | .update =>
        !keyInRange f.key || (Op.ofCode f.aux).isNone ||
          (f.aux == Op.add.code && decide (8 ≤ f.wordIndex.toNat))
      | .publish => !keyInRange f.key || (Op.ofCode f.aux).isNone
      | .refuse => !keyInRange f.key || (refuseOutcome f.aux).isNone
      | .roll => false
      | .close => false
      | .reform => false)

/-- The check errors of R105 at this station: `winner` is the winner it computed (none while unsynced) and
`sent` the frame it sent itself. -/
def checkError (winner : Option Station) (sent : Option OwnFrame) (bs : List Byte) : Bool :=
  !frameIntact bs ||
    (Frame.ofBytes bs).fieldError bs.length ||
    (match winner with
    | some w => (Frame.ofBytes bs).sender != w
    | none => false) ||
    (match sent with
    | some o => o.frame.bytes != bs
    | none => false)

/-! ## Updates -/

/-- The content of an update with the fields its op does not use at zero (R15, R78): the expected version is
SWAP's, the word index ADD's; an ADD keeps word 0 alone of its value, a DELETE none. -/
def Update.make (op : Op) (expected : Version) (wordIndex : Byte) (value : Value) : Update :=
  { op := op
    expected := if op = .swap then expected else 0
    wordIndex := if op = .add then wordIndex else 0
    value :=
      match op with
      | .write => value
      | .swap => value
      | .add => zeroValue.set 0 value[0]
      | .delete => zeroValue }

/-- The request that a taken FETCH or UPDATE carries (R15). -/
def Frame.request (f : Frame) : HomeRequest :=
  match f.kind with
  | some .update =>
    match Op.ofCode f.aux with
    | some op => .update (Update.make op f.version f.wordIndex f.value)
    | none => .fetch
  | _ => .fetch

/-- An UPDATE frame's op, word index, version and value, and its length (R78). -/
def Frame.withUpdate (f : Frame) (u : Update) : Frame :=
  { f with
    long := u.op != .delete
    aux := u.op.code
    wordIndex := u.wordIndex
    version := u.expected
    value := u.value }

/-! ## Host records -/

/-- A command record from the bytes after the transaction code (R174). -/
def CommandRecord.ofBytes (long : Bool) (bs : List Byte) : CommandRecord :=
  { long := long
    kind := byteAt bs 0
    hostTag := byteAt bs 1
    key := le16 bs 2
    slot := byteAt bs 4
    flags := byteAt bs 5
    wordIndex := byteAt bs 6
    zeroByte := byteAt bs 7
    expected := le32 bs 8
    value := if long then leValue bs 12 else zeroValue }

/-- The command a record names (R141). -/
def CommandRecord.command (c : CommandRecord) : Option CommandKind :=
  CommandKind.ofCode c.kind

/-- The FRESH flag (R174). -/
def CommandRecord.fresh (c : CommandRecord) : Bool :=
  c.flags.getLsbD 0

/-- The NOCOPY flag (R174). -/
def CommandRecord.noCopy (c : CommandRecord) : Bool :=
  c.flags.getLsbD 1

/-- The EVERY flag (R174). -/
def CommandRecord.every (c : CommandRecord) : Bool :=
  c.flags.getLsbD 2

/-- The cookie of a WATCH: bytes 8 and 9 (R174). -/
def CommandRecord.cookie (c : CommandRecord) : Cookie :=
  c.expected.setWidth 16

/-- The slot a record names, when its slot field is 0 to 3 (R61). -/
def CommandRecord.slotIndex (c : CommandRecord) : Option (Fin 4) :=
  if h : c.slot.toNat < 4 then some ⟨c.slot.toNat, h⟩ else none

/-- Byte 3 of a queue record: bit 0 present, bit 1 value-valid, the origin in bits 7 to 4 (R175). -/
def flagByte (origin : Station) (present valueValid : Bool) : Byte :=
  origin ++ (0#2 ++ BitVec.ofBool valueValid ++ BitVec.ofBool present)

/-- A completion record as its 44 bytes (R175). -/
def Completion.bytes (c : Completion) : List Byte :=
  [1, c.hostTag, c.outcome.code, flagByte 0 c.present c.value.isSome] ++ bytes16 c.key ++ [0, 0] ++
    bytes32 c.version ++ valueBytes (c.value.getD zeroValue)

/-- A notice record as its 44 bytes; value-valid is set for CHANGED (R166, R175). -/
def Notice.bytes (n : Notice) : List Byte :=
  [2, 0, n.reason.code, flagByte n.origin n.record.present (n.reason == .changed)] ++ bytes16 n.key ++
    bytes16 n.cookie ++ bytes32 n.record.version ++ valueBytes n.record.value

/-- A record of the completion queue as its 44 bytes (R175). -/
def QueueRecord.bytes : QueueRecord → List Byte
  | .completion c => c.bytes
  | .notice n => n.bytes

/-- The EMPTY record: 44 zero bytes (R172, R175). -/
def emptyRecord : List Byte :=
  List.replicate 44 0

end Sys2Proof.Machine
end

