-- ==== Sys2Proof/Machine/Store.lean ====
section
/-! DEFINITION. The home store as a canonical list: reading, writing and clearing the marks (R2, R14, R38). -/

namespace Sys2Proof.Machine

/-- The home record of a key; a key not listed holds the cleared record (R14). -/
def storeGet : HomeStore → Nat → HomeRecord
  | [], _ => .cleared
  | (a, r) :: rest, k => if a = k then r else storeGet rest k

/-- Writing a home record; the cleared record is not listed. -/
def storeSet : HomeStore → Nat → HomeRecord → HomeStore
  | [], k, r => if r = .cleared then [] else [(k, r)]
  | (a, x) :: rest, k, r =>
    if k < a then
      if r = .cleared then (a, x) :: rest else (k, r) :: (a, x) :: rest
    else if k = a then
      if r = .cleared then rest else (k, r) :: rest
    else (a, x) :: storeSet rest k r

/-- Clearing every publishing mark, the committed records kept (R38). -/
def storeClearMarks : HomeStore → HomeStore
  | [] => []
  | (a, r) :: rest =>
    if r.committed = .cleared then storeClearMarks rest
    else (a, { r with publishing := false }) :: storeClearMarks rest

/-- Every listed key is at least `low`, keys rise strictly, and no cleared record is listed. -/
def storeSorted : Nat → HomeStore → Bool
  | _, [] => true
  | low, (a, r) :: rest => decide (low ≤ a) && decide (r ≠ .cleared) && storeSorted (a + 1) rest

/-- The canonical form of the home store. -/
def storeWf (m : HomeStore) : Bool :=
  storeSorted 0 m

/-- Committing a record: it is written and the mark is cleared (R11, R31). -/
def storeCommit (m : HomeStore) (k : Key) (r : TableRecord) : HomeStore :=
  storeSet m k.toNat { committed := r, publishing := false }

/-- Setting or clearing a key's publishing mark, the committed record kept (R17). -/
def storeMark (m : HomeStore) (k : Key) (b : Bool) : HomeStore :=
  storeSet m k.toNat { storeGet m k.toNat with publishing := b }

end Sys2Proof.Machine
end

