-- ==== Sys2Proof/Machine/Ops.lean ====
section
/-! DEFINITION. The shared operations over the blocks: testing the head again, completing and allocating pending
entries, firing watches, health changes, transmit candidates and the REQ line, leaving an epoch. -/

namespace Sys2Proof.Machine

/-! ## Open orders -/

/-- A list put in an order that `codes` chooses: each next element is set some places before the end of what
stands so far. With no codes left the order is kept; every order has its codes (R171). -/
def arrangeOnto {α : Type} : List α → List Nat → List α → List α
  | acc, _, [] => acc
  | acc, codes, x :: rest =>
    arrangeOnto (acc.insertIdx (acc.length - codes.headD 0 % (acc.length + 1)) x) codes.tail rest

/-- A list in the order that `codes` chooses. -/
def arrange {α : Type} (codes : List Nat) (xs : List α) : List α :=
  arrangeOnto [] codes xs

/-! ## The head of the command queue -/

/-- A waiting head is tested again (R140). -/
def CommandEngine.retest (e : CommandEngine) : CommandEngine :=
  match e.headStatus with
  | .waiting => { e with headStatus := .testing }
  | .testing => e
  | .none => e

/-- An event of R140 tests the head again. -/
def State.retest (s : State) : State :=
  { s with engine := s.engine.retest }

/-- The head leaves the queue and the next command becomes the head (R138). -/
def State.leaveHead (s : State) : State :=
  { s with
    port := { s.port with commands := s.port.commands.tail }
    engine :=
      { headStatus := if s.port.commands.tail.isEmpty then .none else .testing
        fenceWait := false } }

/-! ## Completions -/

/-- A completion joins the tail of the completion queue in the place reserved for it (R171). -/
def HostPort.complete (p : HostPort) (c : Completion) : HostPort :=
  { p with
    completions := p.completions ++ [.completion c]
    outstanding := p.outstanding - 1
    fresh := p.fresh + 1 }

/-- A completion from the Request Tracker or the Formation Controller. -/
def State.complete (s : State) (c : Completion) : State :=
  { s with port := s.port.complete c }

/-- Free unreserved space in the completion queue (R164). -/
def HostPort.freeSpace (p : HostPort) : Nat :=
  Config.completionPlaces - (p.completions.length + p.outstanding)

/-! ## Station and homes -/

/-- The station is out of reset. -/
def State.live (s : State) : Bool :=
  s.pins.resetLow.isNone

/-- The station is in MEMBER state and home to the key (R4). -/
def State.ownHome (s : State) (k : Key) : Bool :=
  s.formation.state == .member && (s.formation.homeOf k).any (fun m => m.station == s.pins.station)

/-- The publishing mark of a key (R2). -/
def State.publishing (s : State) (k : Key) : Bool :=
  (storeGet s.home.store k.toNat).publishing

/-- The committed record of a key in the home store (R2). -/
def State.committed (s : State) (k : Key) : TableRecord :=
  (storeGet s.home.store k.toNat).committed

/-- Some place of the inbound queue is free; a held place is not (R20). -/
def HomeEngine.hasInboundPlace (h : HomeEngine) : Bool :=
  decide (h.inbound.length + (if h.heldPlace then 1 else 0) < Config.inboundPlaces)

/-! ## Slots -/

/-- A slot becomes EMPTY, its key and version kept (R64, R69, R71). -/
def State.emptySlot (s : State) (n : Fin 4) : State :=
  { s with slots := s.slots.set n { s.slots[n] with state := .empty } }

/-- A slot is written HELD (R63). -/
def State.holdSlot (s : State) (n : Fin 4) (k : Key) (v : Version) : State :=
  { s with slots := s.slots.set n { state := .held, key := k, version := v } }

/-- HELD slots whose key satisfies `p` become LOST (R65, R67). -/
def State.loseSlots (s : State) (p : Key → Bool) : State :=
  { s with
    slots := s.slots.mapIdx fun _ x =>
      if x.state = .held ∧ p x.key = true then { x with state := .lost } else x }

/-! ## The pending table -/

/-- The indices of the pending table, ascending. -/
def allEntries : List (Fin 8) :=
  [0, 1, 2, 3, 4, 5, 6, 7]

/-- The entry in use at an index satisfies `p`. -/
def RequestTracker.holds (t : RequestTracker) (p : PendingEntry → Bool) (i : Fin 8) : Bool :=
  match t.entries[i] with
  | some e => p e
  | none => false

/-- The indices in use whose entry satisfies `p`, ascending. -/
def RequestTracker.indices (t : RequestTracker) (p : PendingEntry → Bool) : List (Fin 8) :=
  allEntries.filter (t.holds p)

/-- The key has an entry in use (R77, R144). -/
def RequestTracker.keyPending (t : RequestTracker) (k : Key) : Bool :=
  allEntries.any (t.holds fun e => e.key == k)

/-- A slot is busy while a pending entry names it (R60). -/
def RequestTracker.slotBusy (t : RequestTracker) (n : Fin 4) : Bool :=
  allEntries.any (t.holds fun e => e.slot == some n)

/-- No entry is in use (R151). -/
def RequestTracker.isEmpty (t : RequestTracker) : Bool :=
  !allEntries.any (t.holds fun _ => true)

/-- The first free index at or after the next-index pointer, wrapping (R77). -/
def RequestTracker.freeIndex (t : RequestTracker) : Option (Fin 8) :=
  (allEntries.map (t.nextIndex + ·)).find? fun i => t.entries[i].isNone

/-- The Span tag of a generation and an index (R77). -/
def spanTag (generation : BitVec 5) (i : Fin 8) : Tag :=
  BitVec.ofNat 8 (generation.toNat * 8 + i.val)

/-- The tag that an allocation of index `i` gives (R77). -/
def RequestTracker.tagAt (t : RequestTracker) (i : Fin 8) : Tag :=
  spanTag (t.generations[i] + 1) i

/-- Allocation at index `i`: the generation rises, the pointer moves past the index, the entry is written with
its new tag (R77). -/
def RequestTracker.allocate (t : RequestTracker) (i : Fin 8) (e : PendingEntry) : RequestTracker :=
  { entries := t.entries.set i (some { e with tag := t.tagAt i })
    generations := t.generations.set i (t.generations[i] + 1)
    nextIndex := i + 1 }

/-- An index becomes free; its generation persists (R76). -/
def RequestTracker.free (t : RequestTracker) (i : Fin 8) : RequestTracker :=
  { t with entries := t.entries.set i none }

/-- An entry is released, which tests the head again (R140). -/
def State.releaseEntry (s : State) (i : Fin 8) : State :=
  { s with tracker := s.tracker.free i }.retest

/-- The slot that an entry names, emptied (R64, R69). -/
def State.emptyEntrySlot (s : State) (e : PendingEntry) : State :=
  match e.slot with
  | some n => s.emptySlot n
  | none => s

/-- A FETCH that ends without content leaves its FILLING entry (R54). -/
def State.endFetch (s : State) (e : PendingEntry) : State :=
  if e.kind = .fetch then { s with copies := s.copies.endFilling e.key } else s

/-- An entry completes without a record: no value, present false, its slot EMPTY, its FILLING entry FREE (R54,
R64, R69, R88). -/
def State.failEntry (s : State) (i : Fin 8) (o : CmdOutcome) (v : Version) : State :=
  match s.tracker.entries[i] with
  | some e =>
    (((s.endFetch e).emptyEntrySlot e).complete
      { hostTag := e.hostTag, outcome := o, key := e.key, version := v, present := false, value := none }
      ).releaseEntry i
  | none => s

/-- OK or ABSENT by the record's present flag (R43, R49, R84). -/
def readOutcome (r : TableRecord) : CmdOutcome :=
  if r.present then .ok else .absent

/-- The completion of a READ or RESERVE with a record (R88, R155). -/
def readCompletion (hostTag : HostTag) (k : Key) (r : TableRecord) : Completion :=
  { hostTag := hostTag
    outcome := readOutcome r
    key := k
    version := r.version
    present := r.present
    value := some r.value }

/-- A FETCH completes with a record; a RESERVE's slot is written HELD (R63, R84, R87). -/
def State.answerFetch (s : State) (i : Fin 8) (r : TableRecord) : State :=
  match s.tracker.entries[i] with
  | some e =>
    ((match e.slot with
      | some n => s.holdSlot n e.key r.version
      | none => s).complete (readCompletion e.hostTag e.key r)).releaseEntry i
  | none => s

/-- The completion of an update whose PUBLISH was taken (R88). -/
def updateCompletion (e : PendingEntry) (r : TableRecord) : Completion :=
  { hostTag := e.hostTag
    outcome := .ok
    key := e.key
    version := r.version
    present := e.command != .delete
    value := if e.command = .add then some r.value else none }

/-- An UPDATE or LOCAL entry completes OK; a COMMIT's slot becomes EMPTY (R69, R86). -/
def State.answerUpdate (s : State) (i : Fin 8) (r : TableRecord) : State :=
  match s.tracker.entries[i] with
  | some e => ((s.emptyEntrySlot e).complete (updateCompletion e r)).releaseEntry i
  | none => s

/-- Several entries complete without a record at one event, in the given order (R93 to R95). -/
def State.failAll (s : State) (is : List (Fin 8)) (o : CmdOutcome) : State :=
  is.foldl (fun s i => s.failEntry i o 0) s

/-! ## Watches -/

/-- The indices of the watch table, ascending. -/
def allWatches : List (Fin 32) :=
  [0, 1, 2, 3, 4, 5, 6, 7, 8, 9, 10, 11, 12, 13, 14, 15, 16, 17, 18, 19, 20, 21, 22, 23, 24, 25, 26, 27, 28,
    29, 30, 31]

/-- The entry is ARMED (R157). -/
def WatchEntry.armed (w : WatchEntry) : Bool :=
  w.state == .armed

/-- The entry is ARMED or FIRED (R157). -/
def WatchEntry.inUse (w : WatchEntry) : Bool :=
  w.state != .free

/-- The watch entry of a key, if it has one (R157). -/
def WatchUnit.entryOf (w : WatchUnit) (k : Key) : Option (Fin 32) :=
  allWatches.find? fun i => w.entries[i].inUse && w.entries[i].key == k

/-- An entry fires: ARMED joins the tail of the fired list, FIRED keeps its place, and the fired fields are
written (9.3). -/
def WatchUnit.fire (w : WatchUnit) (i : Fin 32) (f : Firing) : WatchUnit :=
  match w.entries[i].state with
  | .armed =>
    { entries := w.entries.set i { w.entries[i] with state := .fired, firing := f }
      fired := w.fired ++ [i] }
  | .fired => { w with entries := w.entries.set i { w.entries[i] with firing := f } }
  | .free => w

/-- Several entries fire at one event, in ascending order of key (R162, R163). -/
def WatchUnit.fireAll (w : WatchUnit) (p : WatchEntry → Bool) (f : Firing) : WatchUnit :=
  ((allWatches.filter fun i => p w.entries[i]).insertionSort
    (fun i j => w.entries[i].key.toNat ≤ w.entries[j].key.toNat)).foldl (fun w i => w.fire i f) w

/-- A taken PUBLISH fires the watch of its key (R161). -/
def WatchUnit.firePublish (w : WatchUnit) (k : Key) (origin : Station) (r : TableRecord) : WatchUnit :=
  match w.entryOf k with
  | some i => w.fire i { reason := .changed, origin := origin, record := r }
  | none => w

/-! ## Health -/

/-- Evidence that a member is alive; none concerns the station itself (R109, R125, R126). -/
def State.evidence (s : State) (st : Station) : State :=
  if s.formation.state = .member ∧ st ≠ s.pins.station then
    { s with formation := s.formation.modify st (Member.alive s.clock) }
  else s

/-- A silence of a member (R91, R126). -/
def State.silence (s : State) (st : Station) : State :=
  if s.formation.state = .member ∧ st ≠ s.pins.station then
    { s with formation := s.formation.modify st (Member.silenced s.clock) }
  else s

/-- A member leaves UP, or passes from SILENT to LOST: its copies are freed, HELD slots on its keys are LOST,
its entries complete HOME_DOWN and the ARMED watches on its keys fire (R55, R67, R93, R127, R162). -/
def State.memberDown (s : State) (m : Member) (health : Health) (order : List Nat) : State :=
  let homed := s.formation.homedAtRank m.rank
  let s := { s with formation := s.formation.modify m.station (fun x => { x with health := health }) }
  let s := s.loseSlots homed
  let s := s.failAll
    (arrange order (s.tracker.indices fun e => e.kind != .own && e.home == m.station)) .homeDown
  { s with
    copies := s.copies.releaseWhere homed
    watch := s.watch.fireAll (fun w => w.armed && homed w.key)
      { reason := .homeDown, origin := m.station, record := .cleared } }.retest

/-! ## Frames of this station -/

/-- A ROLL carries the proposal as its epoch and in its aux field (R120). -/
def rollFrame (self : Station) (proposal : Epoch) : Frame :=
  { Frame.blank .roll self proposal with aux := proposal }

/-- A CLOSE carries its bitmap in the key field (R113, R118). -/
def closeFrame (self : Station) (c : CloseFrame) : Frame :=
  { Frame.blank .close self c.epoch with reclose := c.reclose, key := c.bitmap }

/-- A REFORM carries the new epoch (R114). -/
def reformFrame (self : Station) (epoch : Epoch) : Frame :=
  Frame.blank .reform self epoch

/-- The FETCH or UPDATE frame of a pending entry (R78). -/
def requestFrame (self : Station) (epoch : Epoch) (e : PendingEntry) : Frame :=
  match e.update with
  | some u =>
    { Frame.blank .update self epoch with target := e.home, tag := e.tag, key := e.key }.withUpdate u
  | none => { Frame.blank .fetch self epoch with target := e.home, tag := e.tag, key := e.key }

/-- A DATA frame (R22, R27). -/
def dataFrame (self : Station) (epoch : Epoch) (q : InboundEntry) (r : TableRecord) : Frame :=
  { Frame.blank .data self epoch with
    target := q.requester
    tag := q.tag
    key := q.key
    present := r.present
    long := true
    version := r.version
    value := r.value }

/-- A REFUSE frame (R24, R26, R27, R33). -/
def refuseFrame (self : Station) (epoch : Epoch) (target : Station) (tag : Tag) (k : Key)
    (reason : CmdOutcome) (v : Version) : Frame :=
  { Frame.blank .refuse self epoch with
    target := target
    tag := tag
    key := k
    aux := refuseCode reason
    version := v }

/-- A PUBLISH frame: the new record whole, the op and the origin (R12, R23, R27). -/
def publishFrame (self : Station) (epoch : Epoch) (q : InboundEntry) (op : Op) (r : TableRecord) : Frame :=
  { Frame.blank .publish self epoch with
    target := q.requester
    tag := q.tag
    key := q.key
    present := r.present
    long := true
    aux := op.code
    version := r.version
    value := r.value }

/-! ## Transmit candidates and REQ -/

/-- The entry may be sent: QUEUED, its ready time has come, and no limit has ended it (R78, R80, R81). -/
def PendingEntry.candidate (e : PendingEntry) (now : Time) : Bool :=
  e.state == .queued && decide (e.readyTime ≤ now) && decide (e.attempts < Config.attemptLimit) &&
    decide (e.retries < Config.retryLimit)

/-- The request to send: the earliest ready time, the lower index of two that came together (R78, R110). -/
def RequestTracker.nextToSend (t : RequestTracker) (now : Time) : Option (Fin 8 × PendingEntry) :=
  allEntries.foldl
    (fun best i =>
      match t.entries[i] with
      | some e =>
        if e.candidate now then
          match best with
          | some b => if e.readyTime < b.2.readyTime then some (i, e) else some b
          | none => some (i, e)
        else best
      | none => best)
    none

/-- The outbound head may be sent: it has not failed eight times (R28, R30, R33). -/
def OutboundEntry.candidate (o : OutboundEntry) : Bool :=
  decide (o.attempts < Config.attemptLimit)

/-- The outbound head, while it may be sent (R28). -/
def HomeEngine.outboundHead (h : HomeEngine) : Option OutboundEntry :=
  match h.outbound with
  | o :: _ => if o.candidate then some o else none
  | [] => none

/-- The frame this station sends when it wins: REFORM, ROLL, CLOSE, the outbound head, a request (R110). -/
def State.chooseFrame (s : State) : Option OwnFrame :=
  match s.formation.reform with
  | some epoch => some { source := .formation .reform, frame := reformFrame s.pins.station epoch }
  | none =>
    match s.formation.roll with
    | some proposal => some { source := .formation .roll, frame := rollFrame s.pins.station proposal }
    | none =>
      match s.formation.close with
      | some c => some { source := .formation .close, frame := closeFrame s.pins.station c }
      | none =>
        match s.home.outboundHead with
        | some o => some { source := .outbound, frame := o.frame }
        | none =>
          match s.tracker.nextToSend s.clock with
          | some (i, e) =>
            some { source := .request i e.tag
                   frame := requestFrame s.pins.station s.formation.epoch e }
          | none => none

/-- The idle spell has lasted 199 µs or more but not yet 200 µs (R102). -/
def State.idleHold (s : State) : Bool :=
  match s.span.idleTimer with
  | .running since => decide (since + Timing.idleHold ≤ s.clock)
  | .held => false
  | .reached => false

/-- The REQ line follows the candidates: asserted by a synced station that has one, released without; a first
candidate of the last microsecond before the idle limit waits for that limit (R102). -/
def State.refreshReq (s : State) : State :=
  { s with
    span := { s.span with
      req := s.live && s.span.synced && s.chooseFrame.isSome && (s.span.req || !s.idleHold) } }

/-- A station in LISTEN state that becomes synced queues its ROLL (R103, R119). -/
def State.becomeSynced (s : State) : State :=
  { s with
    span := { s.span with synced := true }
    formation :=
      if s.formation.state = .listen then { s.formation with roll := some s.formation.proposal }
      else s.formation }

/-! ## Leaving an epoch -/

/-- Starting or restarting the re-close timer, unless a re-close is queued already (R128). -/
def State.startReclose (s : State) (roller : Station) : State :=
  match s.formation.close with
  | some _ => s
  | none =>
    { s with
      formation := { s.formation with
        recloseTimer :=
          some (s.clock + Timing.recloseDelay (s.formation.recloseRank s.pins.station roller)) } }

/-- What every block of a station that leaves MEMBER state by exclusion does (R38, R58, R74, R95, R132). -/
def State.abandonMembership (s : State) (order : List Nat) : State :=
  let s := s.failAll (arrange order (s.tracker.indices fun _ => true)) .notMember
  { s with
    home := { store := storeClearMarks s.home.store, inbound := [], heldPlace := false, outbound := [] }
    copies := .afterReset
    slots := s.slots.mapIdx fun _ x => { x with state := .empty } }

/-- The station becomes EXCLUDED with the given heard epoch (R132). -/
def State.exclude (s : State) (epoch : Epoch) (order : List Nat) : State :=
  let s := if s.formation.state = .member then s.abandonMembership order else s
  { s with
    formation := { s.formation with
      state := .excluded
      epoch := epoch
      rollList := 0
      highest := 0
      closeTimer := none
      recloseTimer := none
      members := []
      roll := none
      close := none } }.retest

/-- One completion of a taken REFORM: of a pending entry, or of a REFORM command held (R94, R134). -/
def State.reformCompletion (s : State) : Fin 8 ⊕ HostTag → State
  | .inl i => s.failEntry i .reformed 0
  | .inr tag =>
    s.complete
      { hostTag := tag, outcome := .ok, key := 0, version := 0, present := false, value := none }

/-- Every block's reaction to a REFORM that the station takes (R14, R37, R57, R74, R94, R135, R163). -/
def State.takeReform (s : State) (sender : Station) (epoch : Epoch) (order : List Nat) : State :=
  let s := (arrange order
      ((s.tracker.indices fun _ => true).map Sum.inl ++ s.formation.reformTags.map Sum.inr)).foldl
    State.reformCompletion s
  { s with
    formation :=
      { state := .listen
        epoch := epoch
        proposal := epoch
        rollList := 0
        highest := 0
        closeTimer := none
        recloseTimer := none
        members := []
        lateRoll := s.formation.lateRoll
        reform := none
        roll := some epoch
        close := none
        reformTags := [] }
    home := .afterReset
    copies := .afterReset
    slots := Slot.afterReset
    watch := s.watch.fireAll WatchEntry.inUse
      { reason := .reformed, origin := sender, record := .cleared } }.retest

/-! ## Form of an event -/

/-- The station's time moves on to `t`; it never moves back. -/
def State.advance (s : State) (t : Time) : State :=
  { s with clock := max s.clock t }

end Sys2Proof.Machine
end

