-- ==== Sys2Proof/Machine/Flags.lean ====
section
/-! DEFINITION. The flags and counts that the host sees: the port status byte, ATTN#, the room condition and
the status record (R137, R168, R169, R171, R173). -/

namespace Sys2Proof.Machine

/-- The room condition of a PUT (R168, R169). -/
def HostPort.room (p : HostPort) : Bool :=
  decide (p.commands.length < Config.commandPlaces) &&
    decide (p.completions.length + p.outstanding < Config.completionPlaces)

/-- ATTN# is asserted while the completion queue holds a record (R171). -/
def HostPort.attn (p : HostPort) : Bool :=
  !p.completions.isEmpty

/-- The port status byte (R168). -/
def State.statusByte (s : State) : Byte :=
  0#4 ++ s.formation.state.code ++ BitVec.ofBool s.port.attn ++ BitVec.ofBool s.port.room

/-- The flags byte of the status record: LATE_ROLL, PUT_REFUSED, TORN (R173). -/
def State.flagsByte (s : State) : Byte :=
  0#5 ++ BitVec.ofBool s.port.torn ++ BitVec.ofBool s.port.putRefused ++ BitVec.ofBool s.formation.lateRoll

/-- The 16-byte status record (R173). -/
def State.statusRecord (s : State) : List Byte :=
  [0#6 ++ s.formation.state.code, 0#4 ++ s.pins.station, s.formation.epoch, s.flagsByte] ++
    bytes16 s.formation.memberBitmap ++ bytes16 s.formation.upBitmap ++
    [BitVec.ofNat 8 s.port.commands.length, BitVec.ofNat 8 s.port.completions.length,
      BitVec.ofNat 8 s.port.outstanding, 0, 0, 0, 0, 0]

end Sys2Proof.Machine
end

