-- ==== Sys2Proof/Machine/Notices.lean ====
section
/-! DEFINITION. The Watch Unit's delivery of notices (R164 to R166), and WATCH and UNWATCH (R159, R160). -/

namespace Sys2Proof.Machine

/-- The notice of an entry, from its fields at delivery (R166). -/
def WatchEntry.notice (w : WatchEntry) : Notice :=
  { reason := w.firing.reason
    key := w.key
    cookie := w.cookie
    origin := w.firing.origin
    record := w.firing.record }

/-- An entry after its delivery: re-armed if every is set, else freed (R165). -/
def WatchEntry.delivered (w : WatchEntry) : WatchEntry :=
  if w.every then { w with state := .armed, firing := .cleared } else .cleared

/-- A notice joins the completion queue, ahead of at most `ahead` of the records that other blocks placed there
at this event (R164, R171). -/
def HostPort.placeNotice (p : HostPort) (n : Notice) (ahead : Nat) : HostPort :=
  { p with
    completions := p.completions.insertIdx (p.completions.length - min ahead p.fresh) (.notice n)
    fresh := min ahead p.fresh }

/-- A notice is due: free unreserved space and a fired entry (R164). -/
def State.noticeDue (s : State) : Bool :=
  decide (1 ≤ s.port.freeSpace) && !s.watch.fired.isEmpty

/-- NOTICE_DELIVERY: the head of the fired list is delivered, and leaves the list (R164, R165). -/
def State.deliverNotice (s : State) (ahead : Nat) : State :=
  if s.noticeDue then
    match s.watch.fired with
    | i :: rest =>
      { s with
        port := s.port.placeNotice s.watch.entries[i].notice ahead
        watch := { entries := s.watch.entries.set i s.watch.entries[i].delivered, fired := rest } }
    | [] => s
  else s

/-- A FREE entry with the lowest index (R159). -/
def WatchUnit.firstFree (w : WatchUnit) : Option (Fin 32) :=
  allWatches.find? fun i => w.entries[i].state == .free

/-- WATCH: cookie and every replaced where the key has an entry, else the first FREE entry armed; `none` when
the table is full (R159). -/
def WatchUnit.arm (w : WatchUnit) (k : Key) (cookie : Cookie) (every : Bool) : Option WatchUnit :=
  match w.entryOf k with
  | some i => some { w with entries := w.entries.set i { w.entries[i] with cookie := cookie, every := every } }
  | none =>
    match w.firstFree with
    | some i =>
      some { w with
        entries := w.entries.set i
          { state := .armed, key := k, cookie := cookie, every := every, firing := .cleared } }
    | none => none

/-- UNWATCH: the entry of the key is freed and leaves the fired list (R160). -/
def WatchUnit.disarm (w : WatchUnit) (k : Key) : WatchUnit :=
  match w.entryOf k with
  | some i => { entries := w.entries.set i .cleared, fired := w.fired.filter (· != i) }
  | none => w

end Sys2Proof.Machine
end

