-- ==== Sys2Proof/Machine/Commands.lean ====
section
/-! DEFINITION. The Command Engine: the tests of R139 in their order, and what each command does that passes
them (R141 to R155). -/

namespace Sys2Proof.Machine

/-! ## Reading the record -/

/-- The kinds that read the key field (R141). -/
def CommandKind.readsKey : CommandKind → Bool
  | .read | .write | .swap | .add | .delete | .reserve | .watch | .unwatch | .drop => true
  | .commit | .release | .fence | .reform => false

/-- The kinds that need a long record (R141). -/
def CommandKind.needsLong : CommandKind → Bool
  | .write | .swap | .add | .commit => true
  | .read | .delete | .reserve | .release | .fence | .watch | .unwatch | .drop | .reform => false

/-- The kinds that read the slot field (R141). -/
def CommandKind.readsSlot : CommandKind → Bool
  | .reserve | .commit | .release => true
  | .read | .write | .swap | .add | .delete | .fence | .watch | .unwatch | .drop | .reform => false

/-- The kinds that step 7 tests for the home's health (R145). -/
def CommandKind.needsHome : CommandKind → Bool
  | .read | .write | .swap | .add | .delete | .reserve => true
  | .commit | .release | .fence | .watch | .unwatch | .drop | .reform => false

/-- The checks of form, in the order of R142; the first that fails gives the outcome. -/
def formError (kind : CommandKind) (c : CommandRecord) : Option CmdOutcome :=
  if kind.readsKey && !keyInRange c.key then some .badKey
  else if kind.needsLong && !c.long then some .badField
  else if kind.readsSlot && c.slotIndex.isNone then some .badField
  else if kind == .add && decide (8 ≤ c.wordIndex.toNat) then some .badField
  else if c.zeroByte != 0 then some .badField
  else none

/-- The key field of the slot that a record names. -/
def State.slotKey (s : State) (c : CommandRecord) : Option Key :=
  c.slotIndex.map fun n => s.slots[n].key

/-- The key of a completion at the head (R155). -/
def State.completionKey (s : State) (kind : CommandKind) (c : CommandRecord) : Key :=
  match kind with
  | .commit | .release => (s.slotKey c).getD c.key
  | .fence | .reform => 0
  | .read | .write | .swap | .add | .delete | .reserve | .watch | .unwatch | .drop => c.key

/-- The keys that step 4 tests (R144). -/
def State.headKeys (s : State) (kind : CommandKind) (c : CommandRecord) : List Key :=
  match kind with
  | .read | .write | .swap | .add | .delete | .watch | .unwatch | .drop => [c.key]
  | .reserve => c.key :: (s.slotKey c).toList
  | .commit | .release => (s.slotKey c).toList
  | .fence | .reform => []

/-- Steps 4 and 5: the key has a pending entry, or the slot is busy (R144). -/
def State.headBlocked (s : State) (kind : CommandKind) (c : CommandRecord) : Bool :=
  (s.headKeys kind c).any s.tracker.keyPending ||
    (kind.readsSlot && c.slotIndex.any s.tracker.slotBusy)

/-- Step 7: the home of the key is SILENT or LOST (R145). -/
def State.homeIsDown (s : State) (kind : CommandKind) (c : CommandRecord) : Bool :=
  kind.needsHome && (s.formation.homeOf c.key).any fun m => m.health != .up

/-! ## Leaving the head -/

/-- The head waits; a waiting FENCE sets the FENCE wait (R138). -/
def State.waitHead (s : State) (kind : CommandKind) : State :=
  { s with engine := { headStatus := .waiting, fenceWait := kind == .fence } }

/-- A completion of the Command Engine joins the completion queue (R155, R171). -/
def HostPort.completeHead (p : HostPort) (c : Completion) : HostPort :=
  { p with completions := p.completions ++ [.completion c], outstanding := p.outstanding - 1, fresh := 0 }

/-- The head completes at once with the given completion and leaves the queue (R138, R155). -/
def State.finishHead (s : State) (c : Completion) : State :=
  { s with port := s.port.completeHead c }.leaveHead

/-- A completion without a record: no value, present false (R155). -/
def State.plainCompletion (s : State) (kind : CommandKind) (c : CommandRecord) (o : CmdOutcome)
    (v : Version) : Completion :=
  { hostTag := c.hostTag
    outcome := o
    key := s.completionKey kind c
    version := v
    present := false
    value := none }

/-- The head completes at once without a record. -/
def State.finishPlain (s : State) (kind : CommandKind) (c : CommandRecord) (o : CmdOutcome)
    (v : Version) : State :=
  s.finishHead (s.plainCompletion kind c o v)

/-- The head, a READ or RESERVE, completes at once with a record (R146, R147). -/
def State.finishRecord (s : State) (c : CommandRecord) (r : TableRecord) : State :=
  s.finishHead (readCompletion c.hostTag c.key r)

/-- The command at the head of the command queue. -/
def State.head (s : State) : Option CommandRecord :=
  s.port.commands.head?

/-- Steps 3 to 7 of R139, then the command itself. -/
def State.testHead (s : State) (kind : CommandKind) (c : CommandRecord) (serve : State → State) : State :=
  match s.formation.state with
  | .excluded => s.finishPlain kind c .notMember 0
  | .listen => s.waitHead kind
  | .rolled => s.waitHead kind
  | .member =>
    if s.headBlocked kind c then s.waitHead kind
    else if s.homeIsDown kind c then
      (match kind, c.slotIndex with
        | .reserve, some n => s.emptySlot n
        | _, _ => s).finishPlain kind c .homeDown 0
    else serve s

/-- The head, if it is of the given kind, through the tests of R139. -/
def State.atHead (s : State) (kind : CommandKind) (serve : CommandRecord → State → State) : State :=
  match s.head with
  | some c =>
    if c.command = some kind then
      match formError kind c with
      | some o => s.finishPlain kind c o 0
      | none => s.testHead kind c (serve c)
    else s
  | none => s

/-! ## Dispatch -/

/-- A new entry, QUEUED and ready at this event (R77). -/
def State.newEntry (s : State) (kind : EntryKind) (c : CommandRecord) (command : CommandKind) (k : Key)
    (slot : Option (Fin 4)) (update : Option Update) : PendingEntry :=
  { kind := kind
    key := k
    home := ((s.formation.homeOf k).map Member.station).getD s.pins.station
    command := command
    hostTag := c.hostTag
    slot := slot
    update := update
    tag := 0
    state := if kind = .own then .waitHome else .queued
    attempts := 0
    retries := 0
    readyTime := s.clock
    deadline := none
    lastVoided := false }

/-- The Copy Table when a fetch is dispatched: a VALID entry (FRESH) is touched, a key without an entry claims
a way unless NOCOPY (R44 to R47). -/
def CopyTable.atFetch (t : CopyTable) (k : Key) (noCopy : Bool) : CopyTable :=
  match t.entry k with
  | some _ => t.touchKey k
  | none => if noCopy then t else t.claimKey k

/-- Dispatch of a fetch: the entry is allocated, the Copy Table claims or touches (R44 to R48, R77), and the
command leaves the head. -/
def State.dispatchFetch (s : State) (i : Fin 8) (c : CommandRecord) (command : CommandKind)
    (slot : Option (Fin 4)) (noCopy : Bool) : State :=
  ({ s with
    tracker := s.tracker.allocate i (s.newEntry .fetch c command c.key slot none)
    copies := s.copies.atFetch c.key noCopy } : State).leaveHead

/-- Dispatch of an update to a remote home (R148). -/
def State.dispatchRemote (s : State) (i : Fin 8) (c : CommandRecord) (command : CommandKind) (k : Key)
    (slot : Option (Fin 4)) (u : Update) : State :=
  ({ s with tracker := s.tracker.allocate i (s.newEntry .update c command k slot (some u)) } : State).leaveHead

/-- A local update with its LOCAL entry: it joins the tail of the inbound queue (R20, R149). -/
def State.dispatchLocal (s : State) (i : Fin 8) (c : CommandRecord) (command : CommandKind) (k : Key)
    (slot : Option (Fin 4)) (u : Update) : State :=
  ({ s with
    tracker := s.tracker.allocate i (s.newEntry .own c command k slot none)
    home := { s.home with
      inbound := s.home.inbound ++
        [{ source := .own
           request := .update u
           key := k
           requester := s.pins.station
           tag := s.tracker.tagAt i }] } } : State).leaveHead

/-- An update at step 8, by R148 or R149; a slot named by a COMMIT becomes COMMITTING with the allocation
(R68). -/
def State.serveUpdate (s : State) (c : CommandRecord) (command : CommandKind) (k : Key)
    (slot : Option (Fin 4)) (u : Update) : State :=
  match s.tracker.freeIndex with
  | some i =>
    let committing :=
      match slot with
      | some n => { s with slots := s.slots.set n { s.slots[n] with state := .committing } }
      | none => s
    if s.ownHome k then
      if s.home.hasInboundPlace then committing.dispatchLocal i c command k slot u else s.waitHead command
    else committing.dispatchRemote i c command k slot u
  | none => s.waitHead command

/-- A fetch at step 8: dispatched when the pending table has a free entry (R146, R147). -/
def State.serveFetch (s : State) (c : CommandRecord) (command : CommandKind) (slot : Option (Fin 4))
    (noCopy : Bool) : State :=
  match s.tracker.freeIndex with
  | some i => s.dispatchFetch i c command slot noCopy
  | none => s.waitHead command

/-! ## The commands -/

/-- READ at step 8 (R146): the home store, a VALID copy unless FRESH, or a fetch. -/
def State.serveRead (c : CommandRecord) (s : State) : State :=
  if s.ownHome c.key then
    if s.publishing c.key then s.waitHead .read else s.finishRecord c (s.committed c.key)
  else
    match (if c.fresh then none else s.copies.validRecord c.key) with
    | some r => { s with copies := s.copies.touchKey c.key }.finishRecord c r
    | none => s.serveFetch c .read none c.noCopy

/-- RESERVE at step 8 (R62, R63, R147). -/
def State.serveReserve (c : CommandRecord) (s : State) : State :=
  match c.slotIndex with
  | some n =>
    if s.ownHome c.key then
      if s.publishing c.key then s.waitHead .reserve
      else (s.holdSlot n c.key (s.committed c.key).version).finishRecord c (s.committed c.key)
    else
      match s.copies.validRecord c.key with
      | some r =>
        ({ s with copies := s.copies.touchKey c.key }.holdSlot n c.key r.version).finishRecord c r
      | none => s.serveFetch c .reserve (some n) false
  | none => s

/-- WRITE at step 8 (R7, R148, R149). -/
def State.serveWrite (c : CommandRecord) (s : State) : State :=
  s.serveUpdate c .write c.key none (Update.make .write 0 0 c.value)

/-- SWAP at step 8, with the host's expected version (R8, R72). -/
def State.serveSwap (c : CommandRecord) (s : State) : State :=
  s.serveUpdate c .swap c.key none (Update.make .swap c.expected 0 c.value)

/-- ADD at step 8: the addend is word 0 of the value (R9, R148). -/
def State.serveAdd (c : CommandRecord) (s : State) : State :=
  s.serveUpdate c .add c.key none (Update.make .add 0 c.wordIndex c.value)

/-- DELETE at step 8 (R10). -/
def State.serveDelete (c : CommandRecord) (s : State) : State :=
  s.serveUpdate c .delete c.key none (Update.make .delete 0 0 zeroValue)

/-- COMMIT at step 8, by its slot's state (R68, R150). A COMMITTING slot is busy and waits at step 5. -/
def State.serveCommit (c : CommandRecord) (s : State) : State :=
  match c.slotIndex with
  | some n =>
    match s.slots[n].state with
    | .empty => s.finishPlain .commit c .noReservation 0
    | .lost => (s.emptySlot n).finishPlain .commit c .lost s.slots[n].version
    | .held =>
      s.serveUpdate c .commit s.slots[n].key (some n) (Update.make .swap s.slots[n].version 0 c.value)
    | .committing => s.waitHead .commit
  | none => s

/-- RELEASE at step 8 (R71). A COMMITTING slot is busy and waits at step 5. -/
def State.serveRelease (c : CommandRecord) (s : State) : State :=
  match c.slotIndex with
  | some n =>
    if s.slots[n].state = .committing then s.waitHead .release
    else (s.emptySlot n).finishPlain .release c .ok 0
  | none => s

/-- FENCE at step 6: OK once no pending entry is in use (R151). -/
def State.serveFence (c : CommandRecord) (s : State) : State :=
  if s.tracker.isEmpty then s.finishPlain .fence c .ok 0 else s.waitHead .fence

/-- WATCH at step 8 (R152, R159). -/
def State.serveWatch (c : CommandRecord) (s : State) : State :=
  match s.watch.arm c.key c.cookie c.every with
  | some w => { s with watch := w }.finishPlain .watch c .ok 0
  | none => s.finishPlain .watch c .watchFull 0

/-- UNWATCH at step 8 (R152, R160). -/
def State.serveUnwatch (c : CommandRecord) (s : State) : State :=
  { s with watch := s.watch.disarm c.key }.finishPlain .unwatch c .ok 0

/-- DROP at step 8 (R56, R153). -/
def State.serveDrop (c : CommandRecord) (s : State) : State :=
  { s with copies := s.copies.dropKey c.key }.finishPlain .drop c .ok 0

/-- A REFORM command is handed over: a REFORM frame of the next epoch is queued unless one is queued already,
and the command stays outstanding (R134, R154). -/
def State.handOverReform (s : State) (c : CommandRecord) : State :=
  ({ s with
    formation := { s.formation with
      reform := some (s.formation.reform.getD (s.formation.epoch + 1))
      reformTags := s.formation.reformTags ++ [c.hostTag] } } : State).leaveHead

/-- A REFORM at the head, in any station state (R154). -/
def State.reformAtHead (s : State) : State :=
  match s.head with
  | some c =>
    if c.command = some .reform then
      match formError .reform c with
      | some o => s.finishPlain .reform c o 0
      | none => s.handOverReform c
    else s
  | none => s

/-- A command of unknown kind at the head: BAD_COMMAND with the key as written (R141). -/
def State.badAtHead (s : State) : State :=
  match s.head with
  | some c =>
    if c.command = none then
      s.finishHead
        { hostTag := c.hostTag
          outcome := .badCommand
          key := c.key
          version := 0
          present := false
          value := none }
    else s
  | none => s

/-- The command at the head, whatever its kind. -/
def State.engineStep (s : State) : State :=
  match s.head with
  | some c =>
    match c.command with
    | some .read => s.atHead .read State.serveRead
    | some .write => s.atHead .write State.serveWrite
    | some .swap => s.atHead .swap State.serveSwap
    | some .add => s.atHead .add State.serveAdd
    | some .delete => s.atHead .delete State.serveDelete
    | some .reserve => s.atHead .reserve State.serveReserve
    | some .commit => s.atHead .commit State.serveCommit
    | some .release => s.atHead .release State.serveRelease
    | some .fence => s.atHead .fence State.serveFence
    | some .watch => s.atHead .watch State.serveWatch
    | some .unwatch => s.atHead .unwatch State.serveUnwatch
    | some .drop => s.atHead .drop State.serveDrop
    | some .reform => s.reformAtHead
    | none => s.badAtHead
  | none => s

end Sys2Proof.Machine
end

