-- ==== Sys2Proof/Machine/Home.lean ====
section
/-! DEFINITION. The Home Engine at work: judging an update (R6 to R10), handling the inbound head (2.3) and
giving up an outbound head (R30, R33). -/

namespace Sys2Proof.Machine

/-- The new record of an accepted update (R7 to R10). -/
def newRecord (old : TableRecord) (u : Update) : TableRecord :=
  match u.op with
  | .write => { present := true, version := old.version + 1, value := u.value }
  | .swap => { present := true, version := old.version + 1, value := u.value }
  | .add =>
    let base := if old.present then old.value else zeroValue
    { present := true
      version := old.version + 1
      value := base.setIfInBounds u.wordIndex.toNat (base.getD u.wordIndex.toNat 0 + u.value[0]) }
  | .delete => { present := false, version := old.version + 1, value := zeroValue }

/-- The two tests of R6, in their order: the refusal's reason, or the new record. -/
def judge (old : TableRecord) (u : Update) : Except CmdOutcome TableRecord :=
  if old.version = topVersion then .error .versionLimit
  else if u.op = .swap ∧ u.expected ≠ old.version then .error .versionMismatch
  else .ok (newRecord old u)

/-- The inbound head may be handled: its key is not publishing and the outbound queue has room (R21). An
EXCLUDED station's Home Engine handles no request (R38). -/
def State.headFree (s : State) (q : InboundEntry) : Bool :=
  s.formation.state == .member && !s.publishing q.key &&
    decide (s.home.outbound.length < Config.outboundPlaces)

/-- A frame joins the tail of the outbound queue with attempt count 0 (R16). -/
def State.sendFrame (s : State) (f : Frame) (localOrigin : Bool) : State :=
  { s with home := { s.home with
      outbound := s.home.outbound ++ [{ frame := f, attempts := 0, localOrigin := localOrigin }] } }

/-- The head leaves the inbound queue, which may free a waiting command (R140). -/
def State.popInbound (s : State) : State :=
  { s with home := { s.home with inbound := s.home.inbound.tail } }.retest

/-- A REFUSE of the head's request (R24, R26). -/
def State.refuse (s : State) (q : InboundEntry) (reason : CmdOutcome) (v : Version) : State :=
  s.sendFrame (refuseFrame s.pins.station s.formation.epoch q.requester q.tag q.key reason v) false

/-- The index of the LOCAL entry with a tag. -/
def RequestTracker.ownEntry (t : RequestTracker) (tag : Tag) : Option (Fin 8) :=
  allEntries.find? (t.holds fun e => e.kind == .own && e.tag == tag)

/-- The LOCAL entry with a tag completes with the Home Engine's outcome (R25, R33). -/
def State.failOwn (s : State) (tag : Tag) (o : CmdOutcome) (v : Version) : State :=
  match s.tracker.ownEntry tag with
  | some i => s.failEntry i o v
  | none => s

/-- The head FETCH is answered with a DATA, or with a REFUSE if the key is not own-home (R22, R26). -/
def State.answerInboundFetch (s : State) (q : InboundEntry) : State :=
  if s.ownHome q.key then
    s.sendFrame (dataFrame s.pins.station s.formation.epoch q (s.committed q.key)) false
  else s.refuse q .spanFault 0

/-- An update is accepted: its PUBLISH is queued and the key is marked (R23). -/
def State.acceptUpdate (s : State) (q : InboundEntry) (u : Update) (r : TableRecord) : State :=
  let s := s.sendFrame (publishFrame s.pins.station s.formation.epoch q u.op r) (q.source == .own)
  { s with home := { s.home with store := storeMark s.home.store q.key true } }

/-- An update is refused: by a REFUSE frame, or directly for a LOCAL request (R24, R25). -/
def State.refuseUpdate (s : State) (q : InboundEntry) (reason : CmdOutcome) (v : Version) : State :=
  match q.source with
  | .span => s.refuse q reason v
  | .own => s.failOwn q.tag reason v

/-- The head update is judged against the committed record (R23 to R26). -/
def State.answerInboundUpdate (s : State) (q : InboundEntry) (u : Update) : State :=
  if s.ownHome q.key then
    match judge (s.committed q.key) u with
    | .ok r => s.acceptUpdate q u r
    | .error reason => s.refuseUpdate q reason (s.committed q.key).version
  else s.refuse q .spanFault 0

/-- INBOUND_FETCH_HANDLED: the head, if it is a FETCH and free to be handled (R21, R22). -/
def State.handleFetch (s : State) : State :=
  match s.home.inbound with
  | q :: _ =>
    match q.request with
    | .fetch => if s.headFree q then s.popInbound.answerInboundFetch q else s
    | .update _ => s
  | [] => s

/-- INBOUND_UPDATE_HANDLED: the head, if it is an update and free to be handled (R21, R23). -/
def State.handleUpdate (s : State) : State :=
  match s.home.inbound with
  | q :: _ =>
    match q.request with
    | .update u => if s.headFree q then s.popInbound.answerInboundUpdate q u else s
    | .fetch => s
  | [] => s

/-- The inbound head is free to be handled. -/
def State.inboundDue (s : State) : Bool :=
  match s.home.inbound with
  | q :: _ => s.headFree q
  | [] => false

/-- The outbound head leaves the queue. -/
def State.popOutbound (s : State) : State :=
  { s with home := { s.home with outbound := s.home.outbound.tail } }

/-- The outbound head has failed as often as it may (R30, R33). -/
def OutboundEntry.spent (o : OutboundEntry) : Bool :=
  decide (Config.attemptLimit ≤ o.attempts)

/-- OUTBOUND_DISCARD: a spent DATA or REFUSE leaves the head, and nothing else changes (R30). -/
def State.discardHead (s : State) : State :=
  match s.home.outbound with
  | o :: _ => if o.spent && o.frame.kind != some .publish then s.popOutbound else s
  | [] => s

/-- A PUBLISH is dropped: it leaves the head, its mark clears, and its origin is told SPAN_FAULT with the
committed version (R33). -/
def State.dropPublishOf (s : State) (o : OutboundEntry) : State :=
  let v := (s.committed o.frame.key).version
  let s := s.popOutbound
  let s := { s with home := { s.home with store := storeMark s.home.store o.frame.key false } }.retest
  if o.localOrigin then s.failOwn o.frame.tag .spanFault v
  else
    s.sendFrame
      (refuseFrame s.pins.station s.formation.epoch o.frame.target o.frame.tag o.frame.key .spanFault v) false

/-- PUBLISH_DROPPED: a spent PUBLISH at the head (R33). -/
def State.dropPublish (s : State) : State :=
  match s.home.outbound with
  | o :: _ => if o.spent && o.frame.kind == some .publish then s.dropPublishOf o else s
  | [] => s

/-- A taken PUBLISH of this home commits: the record is written, the mark clears, the frame leaves the head
(R11, R31). -/
def State.commitPublish (s : State) (f : Frame) : State :=
  { s.popOutbound with
    home := { s.popOutbound.home with store := storeCommit s.home.store f.key f.record } }.retest

end Sys2Proof.Machine
end

