-- ==== Sys2Proof/Machine/Requests.lean ====
section
/-! DEFINITION. Requests in flight: what ends a pending entry by a limit or its deadline (R80, R81, R89), what a
send's outcome does to it (R79 to R82), which answer matches it (R83), and a member going SILENT (R126). -/

namespace Sys2Proof.Machine

/-- An entry was answered RTY 16 times (R80). -/
def PendingEntry.retriesSpent (e : PendingEntry) : Bool :=
  e.state == .queued && decide (Config.retryLimit ≤ e.retries)

/-- An entry has failed eight sends (R81). -/
def PendingEntry.attemptsSpent (e : PendingEntry) : Bool :=
  e.state == .queued && decide (Config.attemptLimit ≤ e.attempts)

/-- RETRY_LIMIT: the entry completes HOME_BUSY with version 0 (R80). -/
def State.retryLimitAt (s : State) (i : Fin 8) : State :=
  if s.tracker.holds PendingEntry.retriesSpent i then s.failEntry i .homeBusy 0 else s

/-- ATTEMPT_LIMIT: SPAN_FAULT if the eighth send was voided; HOME_SILENT and a silence of the home if it was
unanswered (R81, R91). -/
def State.attemptLimitAt (s : State) (i : Fin 8) : State :=
  match s.tracker.entries[i] with
  | some e =>
    if e.attemptsSpent then
      if e.lastVoided then s.failEntry i .spanFault 0
      else (s.failEntry i .homeSilent 0).silence e.home
    else s
  | none => s

/-- DEADLINE_EXPIRY: a SENT entry completes HOME_SILENT and a silence of its home is reported (R89, R91). -/
def State.deadlineAt (s : State) (i : Fin 8) : State :=
  match s.tracker.entries[i] with
  | some e =>
    if e.state = .sent then (s.failEntry i .homeSilent 0).silence e.home else s
  | none => s

/-- MEMBER_SILENT: a member whose count reached 3 leaves UP (R126, R127). -/
def State.memberSilentAt (s : State) (st : Station) (order : List Nat) : State :=
  match s.formation.find st with
  | some m =>
    if s.formation.state = .member ∧ m.dueSilent = true then s.memberDown m .silent order else s
  | none => s

/-- What a send's outcome makes of its entry (R79 to R81). -/
def PendingEntry.taken (e : PendingEntry) (now : Time) : PendingEntry :=
  { e with state := .sent, deadline := some (now + Timing.answerDeadline) }

/-- An RTY answer: one retry more, ready after the pause (R80). -/
def PendingEntry.retried (e : PendingEntry) (now : Time) : PendingEntry :=
  { e with retries := e.retries + 1, readyTime := now + Timing.retryPause }

/-- A voided or unanswered send: one attempt more, ready at once (R81). -/
def PendingEntry.failed (e : PendingEntry) (now : Time) (voided : Bool) : PendingEntry :=
  { e with attempts := e.attempts + 1, readyTime := now, lastVoided := voided }

/-- The SENT entry that an answer addressed to this station matches: its tag, its key, its home (R83). -/
def PendingEntry.answers (e : PendingEntry) (f : Frame) : Bool :=
  e.state == .sent && e.tag == f.tag && e.key == f.key && e.home == f.sender

/-- The entry that a taken DATA matches (R83). -/
def RequestTracker.matchData (t : RequestTracker) (f : Frame) : Option (Fin 8) :=
  allEntries.find? (t.holds fun e => e.kind == .fetch && e.answers f)

/-- The entry that a taken REFUSE matches: a FETCH only for SPAN_FAULT (R83). -/
def RequestTracker.matchRefuse (t : RequestTracker) (f : Frame) : Option (Fin 8) :=
  allEntries.find?
    (t.holds fun e =>
      e.answers f &&
        ((e.kind == .fetch && refuseOutcome f.aux == some .spanFault) ||
          (e.kind == .update && (refuseOutcome f.aux).isSome)))

/-- The entry that a taken PUBLISH matches by its origin fields (R83). -/
def RequestTracker.matchPublish (t : RequestTracker) (self : Station) (f : Frame) : Option (Fin 8) :=
  if f.target = self then
    allEntries.find?
      (t.holds fun e =>
        (e.kind == .update && e.answers f) || (e.kind == .own && e.tag == f.tag && e.key == f.key))
  else none

/-- The FETCH entry of a key (R87). -/
def RequestTracker.fetchOf (t : RequestTracker) (k : Key) : Option (Fin 8) :=
  allEntries.find? (t.holds fun e => e.kind == .fetch && e.key == k)

/-- A taken DATA addressed to this station (R49, R50, R84). -/
def State.takeData (s : State) (f : Frame) : State :=
  match s.tracker.matchData f with
  | some i =>
    { s with copies := (s.copies.takeData f.key f.record).1 }.answerFetch i
      (s.copies.takeData f.key f.record).2
  | none => s

/-- A taken REFUSE addressed to this station (R85). -/
def State.takeRefuse (s : State) (f : Frame) : State :=
  match s.tracker.matchRefuse f, refuseOutcome f.aux with
  | some i, some o => s.failEntry i o f.version
  | _, _ => s

/-- A fill by publish completes the FETCH of a FILLING key (R52, R87). -/
def State.fillByPublish (s : State) (f : Frame) : State :=
  if s.copies.filling f.key then
    match s.tracker.fetchOf f.key with
    | some i => s.answerFetch i f.record
    | none => s
  else s

/-- The origin's entry completes on its own PUBLISH (R86). -/
def State.completeOrigin (s : State) (f : Frame) : State :=
  match s.tracker.matchPublish s.pins.station f with
  | some i => s.answerUpdate i f.record
  | none => s

/-- A PUBLISH that a MEMBER takes, at every block but the Home Engine: HELD slots are lost, which can decide a
COMMIT that waits at the head, a FILLING entry is filled and its FETCH completes, a copy moves on, the watch fires,
the origin completes (R11, R51 to R53, R65, R66, R86, R87, R140, R161). -/
def State.takePublish (s : State) (f : Frame) : State :=
  let s := (s.loseSlots (fun k => k == f.key)).retest
  let s := (s.fillByPublish f).completeOrigin f
  { s with
    copies := s.copies.takePublish f.key f.record
    watch := s.watch.firePublish f.key f.target f.record }

end Sys2Proof.Machine
end

