-- ==== Sys2Proof/Machine/Settle.lean ====
section
/-! DEFINITION. What follows from an event at that same event. The table gives these follow-on steps rows of their
own, and a sender may command them in any order the manual allows; whatever it leaves out is done before the
next event from outside (notes/assumptions/3.md), so that no event finds a limit reached and not acted on
(R30, R33, R80, R81, R126), a free inbound head (R21), a head to be tested (R138, R140) or a notice due
(R164). -/

namespace Sys2Proof.Machine

/-- Some limit is reached and not yet acted on: a spent outbound head or entry, a member with three
silences. -/
def State.limitDue (s : State) : Bool :=
  s.home.outbound.head?.any OutboundEntry.spent ||
    allEntries.any (s.tracker.holds fun e => e.retriesSpent || e.attemptsSpent) ||
    (s.formation.state == .member && s.formation.members.any Member.dueSilent)

/-- Acting on every limit reached, in the order outbound head, entries, members. -/
def State.obeyLimits (s : State) : State :=
  if s.limitDue then
    let s := s.discardHead.dropPublish
    let s := allEntries.foldl (fun s i => (s.retryLimitAt i).attemptLimitAt i) s
    s.formation.members.foldl (fun s m => s.memberSilentAt m.station []) s
  else s

/-- A limit row: it acts on a live station, and the REQ line follows. -/
def State.limitRow (s : State) (f : State → State) : State :=
  if s.live then (f s).refreshReq else s

/-- A follow-on row: every limit reached is acted on first. -/
def State.followOn (s : State) (f : State → State) : State :=
  if s.live then (f s.obeyLimits).refreshReq else s

/-- Handling the inbound head, whatever it asks (R21). -/
def State.handleInbound (s : State) : State :=
  match s.home.inbound with
  | q :: _ =>
    match q.request with
    | .fetch => s.handleFetch
    | .update _ => s.handleUpdate
  | [] => s

/-- Testing the head of the command queue when it is to be tested (R138). -/
def State.engineDue (s : State) : State :=
  match s.engine.headStatus with
  | .testing => s.engineStep
  | .waiting => s
  | .none => s

/-- Nothing follows from the latest event any more. -/
def State.quiescent (s : State) : Bool :=
  !s.limitDue && !s.inboundDue && s.engine.headStatus != .testing && !s.noticeDue

/-- One round of follow-on steps: the command at the head, the inbound head, a notice.

A publishing mark that is cleared frees two that waited for it at one event: a READ or RESERVE at the command head
(R34) and a request for the same key at the inbound head (R21), which may mark the key again. The manual does not say
which acts first. Here the command head does, so that it is served at the event that clears the mark, as R34 says; a
further READ behind it finds the mark as the inbound head left it. DESIGN CHOICE (notes/assumptions/27.md).

An event can fire a watch, with space free for its notice, and let a WATCH or UNWATCH at the command head act (R140).
The manual does not say whether the notice is delivered first, and its entry re-armed or freed (R164, R165), or the
command acts first (R159, R160). Here the command does. Of the watch's own key, an UNWATCH then drops the notice, and a
WATCH puts its cookie and every flag on it. Of another key, a WATCH does not find the entry that the delivery of a
one-shot watch frees: with no other FREE entry it completes WATCH_FULL, else it takes another one. Where several
commands and several notices are due, a command and a notice take turns. DESIGN CHOICE (notes/assumptions/30.md). -/
def State.settleRound (s : State) : State :=
  ((s.followOn State.engineDue).followOn State.handleInbound).followOn fun s => s.deliverNotice 0

/-- Follow-on steps until nothing follows, at most `n` rounds. -/
def State.settleFor : Nat → State → State
  | 0, s => s
  | n + 1, s => if s.quiescent then s else State.settleFor n s.settleRound

/-- Follow-on steps until nothing follows. -/
def State.settle (s : State) : State :=
  s.settleFor Config.settleRounds

/-- What the Host Port has shown, up to the state as it stands, which it has shown since the station's clock. -/
def State.sampled (s : State) : List Sample :=
  { since := s.clock, status := s.statusByte, record := s.statusRecord } :: s.seen

/-- An event from outside begins: what the Host Port shows up to this event is noted, and no record has joined the
completion queue at this event yet. -/
def State.startEvent (s : State) : State :=
  { s with port := { s.port with fresh := 0 }, seen := s.sampled }

/-- An event from outside at a live station: what followed from the event before is done, then the event takes
place, then the REQ line follows. A station in reset takes no part (R116, R167). -/
def State.onEvent (s : State) (f : State → State) : State :=
  if s.live then (f s.settle.startEvent).refreshReq else s

end Sys2Proof.Machine
end

