-- ==== Sys2Proof/Machine/Port.lean ====
section
/-! DEFINITION. The SPI transactions (chapter 10). A transaction acts at its CS# rise; what the manual samples at the
fall of CS# or at the end of the code byte is what the Host Port showed at those moments (notes/assumptions/5.md). -/

namespace Sys2Proof.Machine

/-- What the Host Port showed at the moment `t`: the newest sample taken no later, or what it shows now (R168,
R172, R173). -/
def State.shownAt (s : State) (t : Time) : Sample :=
  (s.seen.find? fun x => decide (x.since ≤ t)).getD
    { since := s.clock, status := s.statusByte, record := s.statusRecord }

/-- The completion queue held a record: the sampled status byte has ATTN set (R168). -/
def Sample.attn (x : Sample) : Bool :=
  x.status.getLsbD 1

/-- The bytes shifted out: the status byte, the given record bytes as far as clocked, zero bytes beyond
(R167). -/
def sdoBytes (status : Byte) (record : List Byte) (clocked : Nat) : List Byte :=
  status :: (record.take clocked ++ List.replicate (clocked - record.length) 0)

/-- What a transaction shifts out: the status byte as it stood when CS# fell, then record bytes (R167, R168). -/
def State.shiftOut (s : State) (fell : Time) (record : List Byte) (clocked : Nat) : State :=
  { s with port := { s.port with sdo := sdoBytes (s.shownAt fell).status record clocked } }

/-- The end of an SPI transaction. One whose CS# fell before RESET# rose is ignored to its end and shifts nothing out
(R167). The samples were for this transaction alone: CS# falls next after this rise. -/
def State.transaction (s : State) (spi : Transaction) (f : State → State) : State :=
  let s := s.advance spi.rose
  let s := if spi.fell < s.pins.resetRose then { s with port := { s.port with sdo := [] } } else f s
  { s with seen := [] }

/-- An accepted record joins the tail of the command queue and reserves a place; in an empty queue it becomes
the head and is tested (R138, R169). -/
def State.acceptCommand (s : State) (c : CommandRecord) : State :=
  { s with
    port := { s.port with
      commands := s.port.commands ++ [c]
      outstanding := s.port.outstanding + 1 }
    engine :=
      if s.port.commands.isEmpty then { s.engine with headStatus := .testing } else s.engine }

/-- The end of a PUT of a record of `length` bytes: torn, refused or accepted (R169, R170). -/
def State.put (s : State) (long : Bool) (length : Nat) (bs : List Byte) : State :=
  if bs.length < length then { s with port := { s.port with torn := true } }
  else if s.port.room then s.acceptCommand (.ofBytes long bs)
  else { s with port := { s.port with putRefused := true } }

/-- The end of a POP: the head record is returned if the queue held one at the end of the code byte, and leaves if
it was returned whole; else an EMPTY record is returned (R172). -/
def State.popRecord (s : State) (fell code : Time) (clocked : Nat) : State :=
  match s.port.completions with
  | r :: rest =>
    if (s.shownAt code).attn then
      if clocked < 44 then s.shiftOut fell r.bytes clocked
      else
        { s.shiftOut fell r.bytes clocked with
          port := { (s.shiftOut fell r.bytes clocked).port with completions := rest } }
    else s.shiftOut fell emptyRecord clocked
  | [] => s.shiftOut fell emptyRecord clocked

/-- The end of a STAT: the record is the one of the end of the code byte, and the two flags are cleared if it was
read whole (R173). -/
def State.readStatus (s : State) (fell code : Time) (clocked : Nat) : State :=
  if clocked < 16 then s.shiftOut fell (s.shownAt code).record clocked
  else
    { s.shiftOut fell (s.shownAt code).record clocked with
      port := { (s.shiftOut fell (s.shownAt code).record clocked).port with putRefused := false, torn := false } }

/-- What a transaction does, by its code byte (R167): 1 is a PUT of a short record, 2 a PUT of a long one, 3 a POP, 4
a STAT; any other code shifts out zero bytes and has no effect. A transaction cut short before its code byte was
complete (`none`) returns no byte beyond the status byte. -/
def State.serveCode (s : State) (spi : Reading) (code : Option Byte) (received : List Byte) : State :=
  match code with
  | none => s.shiftOut spi.fell [] 0
  | some c =>
    if c = 1 then (s.shiftOut spi.fell [] received.length).put false 12 received
    else if c = 2 then (s.shiftOut spi.fell [] received.length).put true 44 received
    else if c = 3 then s.popRecord spi.fell spi.code received.length
    else if c = 4 then s.readStatus spi.fell spi.code received.length
    else s.shiftOut spi.fell [] received.length

/-- An SPI transaction with its code byte and the whole bytes received after it ends (R167). -/
def State.spiEnds (s : State) (spi : Reading) (code : Option Byte) (received : List Byte) : State :=
  s.onEvent fun s => s.transaction spi.toTransaction fun s => s.serveCode spi code received

/-- PUT_SHORT: the transaction of code 1 (R169, R170). -/
def execPutShort (spi : Transaction) (record : List Byte) (s : State) : Host.Outcome State Fault Refusal :=
  .next (s.spiEnds { spi with code := spi.rose } (some 1) record)

/-- PUT_LONG: the transaction of code 2 (R169, R170). -/
def execPutLong (spi : Transaction) (record : List Byte) (s : State) : Host.Outcome State Fault Refusal :=
  .next (s.spiEnds { spi with code := spi.rose } (some 2) record)

/-- POP: the transaction of code 3, which ignores the bytes it receives (R172). -/
def execPop (spi : Transaction) (clocked : Nat) (code : Time) (s : State) : Host.Outcome State Fault Refusal :=
  .next (s.spiEnds { spi with code := code } (some 3) (List.replicate clocked 0))

/-- STAT: the transaction of code 4, which ignores the bytes it receives (R173). -/
def execStat (spi : Reading) (clocked : Nat) (s : State) : Host.Outcome State Fault Refusal :=
  .next (s.spiEnds spi (some 4) (List.replicate clocked 0))

/-- SPI_UNKNOWN_CODE: a transaction acts by its code, which here is none of the four in every well-formed command
(R167). -/
def execSpiUnknownCode (spi : Reading) (code : Option Byte) (received : List Byte) (s : State) :
    Host.Outcome State Fault Refusal :=
  .next (s.spiEnds spi code received)

end Sys2Proof.Machine
end

