-- ==== Sys2Proof/Machine/Reset.lean ====
section
/-! DEFINITION. Hard reset on the RESET# pin (R97, R116, R119, and the reset rules of every block). -/

namespace Sys2Proof.Machine

/-- The station is driving SPD± itself. -/
def State.drivesSpd (s : State) : Bool :=
  match s.span.tenure with
  | .frame _ (some _) => true
  | _ => false

/-- RESET# falls: the station releases every Span line and SDO, a frame it is driving is cut short, and it takes
part in no window (R97, R116, R167). -/
def State.assertReset (s : State) (t : Time) : State :=
  let s := s.advance t
  { s with
    pins := { s.pins with
      resetLow := some s.clock
      spdSince := if s.drivesSpd then none else s.pins.spdSince
      spdReleased :=
        if s.drivesSpd then s.clock
        else
          match s.span.intruder with
          | .released t _ => t
          | .driven _ => s.pins.spdReleased
          | .absent => s.pins.spdReleased }
    span := { s.span with
      tenure := .quiet
      afterEmpty := false
      intruder := .absent
      req := false
      reqAtClose := none
      ack := false
      rty := false
      chk := false }
    port := { s.port with sdo := [] } }

/-- RESET# rises: the straps are sampled and every block takes its reset values; the lines that others drive and
the queue of commands stand as they are (R119). -/
def State.releaseReset (s : State) (t : Time) (straps : Station) : State :=
  .afterReset (max s.clock t) straps s.pins.spdSince s.pins.spdReleased s.pending

/-- HARD_RESET_ASSERT (R116). -/
def execHardResetAssert (t : Time) (s : State) : Host.Outcome State Fault Refusal :=
  .next (if s.live then s.assertReset t else s)

/-- HARD_RESET_RELEASE (R119). RESET# must have been low for 20 CLK cycles (Pins and Ratings). -/
def execHardResetRelease (t : Time) (straps : Station) (s : State) : Host.Outcome State Fault Refusal :=
  match s.pins.resetLow with
  | some since =>
    if max s.clock t < since + Timing.resetLowTime then .fault .resetPulseTooShort
    else .next (s.releaseReset t straps)
  | none => .next s

end Sys2Proof.Machine
end

