-- ==== Sys2Proof/Machine/Rows.lean ====
section
/-! DEFINITION. The meanings of the follow-on rows: the commands at the head (chapter 8), the Home Engine's
handling (2.3), the limits (R30, R33, R80, R81, R126) and the delivery of notices (R164). A row whose condition
does not hold is an event that does not occur: the state stays (notes/assumptions/2.md). -/

namespace Sys2Proof.Machine

/-- BAD_COMMAND (R141). -/
def execBadCommand (s : State) : Host.Outcome State Fault Refusal :=
  .next (s.followOn State.badAtHead)

/-- READ (R146). -/
def execRead (s : State) : Host.Outcome State Fault Refusal :=
  .next (s.followOn fun s => s.atHead .read State.serveRead)

/-- WRITE (R148, R149). -/
def execWrite (s : State) : Host.Outcome State Fault Refusal :=
  .next (s.followOn fun s => s.atHead .write State.serveWrite)

/-- SWAP (R72). -/
def execSwap (s : State) : Host.Outcome State Fault Refusal :=
  .next (s.followOn fun s => s.atHead .swap State.serveSwap)

/-- ADD (R9). -/
def execAdd (s : State) : Host.Outcome State Fault Refusal :=
  .next (s.followOn fun s => s.atHead .add State.serveAdd)

/-- DELETE (R10). -/
def execDelete (s : State) : Host.Outcome State Fault Refusal :=
  .next (s.followOn fun s => s.atHead .delete State.serveDelete)

/-- RESERVE (R147). -/
def execReserve (s : State) : Host.Outcome State Fault Refusal :=
  .next (s.followOn fun s => s.atHead .reserve State.serveReserve)

/-- COMMIT (R68). -/
def execCommit (s : State) : Host.Outcome State Fault Refusal :=
  .next (s.followOn fun s => s.atHead .commit State.serveCommit)

/-- RELEASE (R71). -/
def execRelease (s : State) : Host.Outcome State Fault Refusal :=
  .next (s.followOn fun s => s.atHead .release State.serveRelease)

/-- FENCE (R151). -/
def execFence (s : State) : Host.Outcome State Fault Refusal :=
  .next (s.followOn fun s => s.atHead .fence State.serveFence)

/-- WATCH (R159). -/
def execWatch (s : State) : Host.Outcome State Fault Refusal :=
  .next (s.followOn fun s => s.atHead .watch State.serveWatch)

/-- UNWATCH (R160). -/
def execUnwatch (s : State) : Host.Outcome State Fault Refusal :=
  .next (s.followOn fun s => s.atHead .unwatch State.serveUnwatch)

/-- DROP (R153). -/
def execDrop (s : State) : Host.Outcome State Fault Refusal :=
  .next (s.followOn fun s => s.atHead .drop State.serveDrop)

/-- REFORM (R154). -/
def execReform (s : State) : Host.Outcome State Fault Refusal :=
  .next (s.followOn State.reformAtHead)

/-- OUTBOUND_DISCARD (R30). -/
def execOutboundDiscard (s : State) : Host.Outcome State Fault Refusal :=
  .next (s.limitRow State.discardHead)

/-- PUBLISH_DROPPED (R33). -/
def execPublishDropped (s : State) : Host.Outcome State Fault Refusal :=
  .next (s.limitRow State.dropPublish)

/-- RETRY_LIMIT (R80). -/
def execRetryLimit (i : Fin 8) (s : State) : Host.Outcome State Fault Refusal :=
  .next (s.limitRow fun s => s.retryLimitAt i)

/-- ATTEMPT_LIMIT (R81). -/
def execAttemptLimit (i : Fin 8) (s : State) : Host.Outcome State Fault Refusal :=
  .next (s.limitRow fun s => s.attemptLimitAt i)

/-- MEMBER_SILENT (R126). -/
def execMemberSilent (st : Station) (order : List Nat) (s : State) : Host.Outcome State Fault Refusal :=
  .next (s.limitRow fun s => s.memberSilentAt st order)

/-- INBOUND_FETCH_HANDLED (R22). -/
def execInboundFetchHandled (s : State) : Host.Outcome State Fault Refusal :=
  .next (s.followOn State.handleFetch)

/-- INBOUND_UPDATE_HANDLED (R23). -/
def execInboundUpdateHandled (s : State) : Host.Outcome State Fault Refusal :=
  .next (s.followOn State.handleUpdate)

/-- NOTICE_DELIVERY (R164). -/
def execNoticeDelivery (ahead : Nat) (s : State) : Host.Outcome State Fault Refusal :=
  .next (s.followOn fun s => s.deliverNotice ahead)

end Sys2Proof.Machine
end

