-- ==== Sys2Proof/Machine/Span.lean ====
section
/-! DEFINITION. The Span Interface up to the response window: idle time, arbitration, the start of a frame and
its judgement at its end (R97 to R105, R110). -/

namespace Sys2Proof.Machine

/-- The first station with its REQ line asserted, in ascending circular order after the last winner, which
comes last itself (R100). -/
def roundRobin (last : Station) (req : StationSet) : Option Station :=
  (allStations.map (last + 1 + ·)).find? (inSet req)

/-- The idle timer reaches 200 µs: last winner 15, and an unsynced station becomes synced (R103). -/
def State.idleExpires (s : State) : State :=
  match s.span.idleTimer with
  | .running since =>
    let s := s.advance (since + Timing.idleLimit)
    let s := { s with span := { s.span with idleTimer := .reached, lastWinner := some 15 } }
    if s.span.synced then s else s.becomeSynced
  | .held => s
  | .reached => s

/-- The own REQ line as an arbitration point reads it: at the close of a window, as it stood before that close
(R102). -/
def State.reqAtPoint (s : State) : Bool :=
  match s.span.reqAtClose with
  | some (t, b) => if t = s.clock then b else s.span.req
  | none => s.span.req

/-- All sixteen REQ lines at an arbitration point: the others' as given, the own line as the station drives it
(R97). -/
def State.reqLines (s : State) (req : StationSet) : StationSet :=
  (req &&& ~~~stationBit s.pins.station) ||| (if s.reqAtPoint then stationBit s.pins.station else 0)

/-- An arbitration point at a synced station in no tenure, SPD± quiet: the winner is computed, and a station that
wins chooses its frame (R99, R100, R110).

While a frame that belongs to no tenure is on SPD±, or its window is open, no REQ line makes an arbitration point:
R99 has the idle Span arbitrate at a REQ line and R98 makes the close of a window the next point, and the manual does
not say which holds there. DESIGN CHOICE (notes/assumptions/28.md). -/
def State.arbitrate (s : State) (req : StationSet) : State :=
  match s.span.tenure, s.pins.spdSince, s.span.lastWinner with
  | .quiet, none, some last =>
    if s.span.synced then
      { s with
        span := { s.span with
          reqAtClose := none
          tenure :=
            match roundRobin last (s.reqLines req) with
            | some w => .won w s.clock (if w = s.pins.station then s.chooseFrame else none)
            | none => .quiet
          afterEmpty := s.span.afterEmpty && (roundRobin last (s.reqLines req)).isNone } }
    else s
  | _, _, _ => s

/-- SPD± begins to be driven, which holds the idle timer at its start (R103). -/
def State.driveSpd (s : State) (tenure : Tenure) : State :=
  { s with
    pins := { s.pins with spdSince := some s.clock }
    span := { s.span with idleTimer := .held, tenure := tenure } }

/-- An empty tenure ends: the would-be winner becomes last winner, and no window follows (R99, R101). -/
def State.endEmptyTenure (s : State) : State :=
  match s.span.tenure, s.pins.spdSince with
  | .won w since none, none =>
    let s := s.advance (since + Timing.emptyTenure)
    { s with span := { s.span with lastWinner := some w, tenure := .quiet, afterEmpty := true } }
  | _, _ => s

/-- A start in no tenure: the station follows the frame if it heard the start pattern, unless the latest tenure
stayed empty, after which a synced station ignores the start (R99, R103). -/
def State.startInQuiet (s : State) (heard : Bool) : Tenure :=
  if heard && !(s.span.synced && s.span.afterEmpty) then .frame none none else .quiet

/-- SPD± begins to be driven. The winner with a frame begins it 0.2 µs after the arbitration point; a start within
2 µs of the point belongs to the tenure, whether its pattern is heard or missed; a later one finds the tenure empty
and belongs to none; a station that computed no winner hears every frame (R98, R99, R103).

SPD± that begins to be driven inside an open response window is a case that the manual does not name. The level is
followed, so that the idle timer does not run (R103), and the frame is followed once the window has closed. DESIGN CHOICE
(notes/assumptions/29.md).

The frame sent is the one chosen at the point, also where its entry was released in the 0.2 µs between: R93 says
that the frame of a released QUEUED entry is not sent, R82 speaks of a frame on the Span only, and the manual does
not say which holds between the two. DESIGN CHOICE (notes/assumptions/26.md). -/
def State.beginFrame (s : State) (t : Time) (heard : Bool) : State :=
  match s.pins.spdSince with
  | some _ => s
  | none =>
    match s.span.tenure with
    | .won w since (some own) =>
      (s.advance (since + Timing.frameLead)).driveSpd (.frame (some w) (some own))
    | .won w since none =>
      if max s.clock t ≤ since + Timing.emptyTenure then
        (s.advance t).driveSpd (if heard then .frame (some w) none else .won w since none)
      else (s.endEmptyTenure.advance t).driveSpd .quiet
    | .quiet => (s.advance t).driveSpd (s.startInQuiet heard)
    | .frame _ _ => s
    | .window winner own bytes =>
      let s := (s.advance t).driveSpd (.window winner own bytes)
      { s with span := { s.span with intruder := .driven heard } }

/-- SPD±, driven since `begun`, is released after the given number of bytes (R98). -/
def State.releaseSpd (s : State) (begun : Time) (n : Nat) : State :=
  let s := s.advance (begun + Timing.frameTime n)
  { s with pins := { s.pins with spdSince := none, spdReleased := s.clock } }

/-- This station is the target of an addressed frame of its epoch and may answer it (R18, R104). -/
def State.mayAnswer (s : State) (f : Frame) : Bool :=
  s.formation.state == .member && f.epoch == s.formation.epoch && f.target == s.pins.station

/-- The response lines driven for a frame without check error, and the place held: ACK# or RTY# for a request,
ACK# for an answer, nothing for any other frame (R18, R29, R104). -/
def State.answerFrame (s : State) (f : Frame) : State :=
  if s.mayAnswer f then
    match f.kind with
    | some .fetch | some .update =>
      if s.home.inbound.length < Config.inboundPlaces then
        { s with
          span := { s.span with ack := true }
          home := { s.home with heldPlace := true } }
      else { s with span := { s.span with rty := true } }
    | some .data | some .refuse => { s with span := { s.span with ack := true } }
    | some .publish | some .roll | some .close | some .reform | none => s
  else s

/-- The station judges a frame it heard from its start: CHK# on a check error, otherwise its answer; the sender
answers no frame of its own (R104, R105). -/
def State.judgeFrame (s : State) (winner : Option Station) (own : Option OwnFrame) (bs : List Byte) :
    State :=
  if checkError winner own bs then { s with span := { s.span with chk := true } }
  else
    match own with
    | some _ => s
    | none => s.answerFrame (.ofBytes bs)

/-- The window after a frame that this station ignored: it drives nothing, and the idle timer stands until the window
closes (R98, R103). -/
def State.openUnheard (s : State) (winner : Option Station) : State :=
  { s with span := { s.span with idleTimer := .held, tenure := .window winner none none } }

/-- SPD± is released inside an open response window. The window goes on; that of the released frame follows it
(notes/assumptions/29.md). -/
def State.releaseIntruder (s : State) (bs : List Byte) : State :=
  let t := s.advance (s.pins.spdSince.getD s.clock + Timing.frameTime bs.length)
  { t with
    pins := { t.pins with spdSince := none }
    span := { t.span with
      intruder := .released t.clock (if s.span.intruder = .driven true then some bs else none) } }

/-- A response window has closed in which SPD± was driven: a frame still on SPD± is followed if its start was heard,
and one already released has its own window now, in which a frame heard from its start is judged (R98, R103, R104;
notes/assumptions/29.md). -/
def State.followIntruder (s : State) (intruder : Intrusion) : State :=
  match intruder with
  | .absent => s
  | .driven heard =>
    { s with span := { s.span with
      idleTimer := .held
      tenure := if heard then .frame none none else .quiet } }
  | .released t none => { s with pins := { s.pins with spdReleased := t } }.openUnheard none
  | .released t (some bs) =>
    let s := { s with pins := { s.pins with spdReleased := t } }.judgeFrame none none bs
    { s with span := { s.span with idleTimer := .held, tenure := .window none none (some bs) } }

/-- SPD± is released, and the response window begins: a frame heard from its start is judged; one whose start was
missed, or that belonged to no tenure, is ignored, and its window is that of a frame not heard (R98, R99, R104). A
missed frame of the tenure began 0.2 µs after the arbitration point where no FRAME_START told when. -/
def State.hearFrame (s : State) (bs : List Byte) : State :=
  match s.span.tenure with
  | .frame winner own =>
    match s.pins.spdSince with
    | some begun =>
      let s := (s.releaseSpd begun bs.length).judgeFrame winner own bs
      { s with span := { s.span with tenure := .window winner own (some bs) } }
    | none => s
  | .won w since none =>
    (s.releaseSpd (s.pins.spdSince.getD (since + Timing.frameLead)) bs.length).openUnheard (some w)
  | .won _ _ (some _) => s
  | .quiet => (s.releaseSpd (s.pins.spdSince.getD s.clock) bs.length).openUnheard none
  | .window _ _ _ => s.releaseIntruder bs

/-- IDLE_TIMEOUT (R103). -/
def execIdleTimeout (s : State) : Host.Outcome State Fault Refusal :=
  .next (s.onEvent State.idleExpires)

/-- ARBITRATION_POINT (R100). -/
def execArbitrationPoint (t : Time) (req : StationSet) (s : State) : Host.Outcome State Fault Refusal :=
  .next (s.onEvent fun s => (s.advance t).arbitrate req)

/-- FRAME_START (R98). A station in reset hears no start pattern, but SPD± is driven. -/
def execFrameStart (start : SpdStart) (s : State) : Host.Outcome State Fault Refusal :=
  .next (if s.live then s.onEvent fun s => s.beginFrame start.time start.heard
    else
      let s := s.advance start.time
      { s with pins := { s.pins with spdSince := some (s.pins.spdSince.getD s.clock) } })

/-- EMPTY_TENURE_END (R99). -/
def execEmptyTenureEnd (s : State) : Host.Outcome State Fault Refusal :=
  .next (s.onEvent State.endEmptyTenure)

/-- FRAME_HEARD (R104). A station in reset judges nothing, but SPD± is released. -/
def execFrameHeard (bytes : List Byte) (s : State) : Host.Outcome State Fault Refusal :=
  .next (if s.live then s.onEvent fun s => s.hearFrame bytes
    else s.releaseSpd (s.pins.spdSince.getD s.clock) bytes.length)

end Sys2Proof.Machine
end

