-- ==== Sys2Proof/Machine/Timers.lean ====
section
/-! DEFINITION. The station's own timers: ready times (R78), deadlines (R89), the close and re-close timers (R122,
R129). A timer's event takes place at the time the timer stands at. -/

namespace Sys2Proof.Machine

/-- The ready time of a QUEUED entry comes; the REQ line follows (R78). -/
def State.readyAt (s : State) (i : Fin 8) : State :=
  match s.tracker.entries[i] with
  | some e => if e.state = .queued then s.advance e.readyTime else s
  | none => s

/-- The deadline of a SENT entry comes (R89). -/
def State.expireAt (s : State) (i : Fin 8) : State :=
  match s.tracker.entries[i] with
  | some e => (s.advance (e.deadline.getD s.clock)).deadlineAt i
  | none => s

/-- The close timer expires: a formation CLOSE is queued with the roll list as its bitmap and the list's
highest proposal as its epoch (R122). -/
def State.closeExpires (s : State) : State :=
  match s.formation.closeTimer with
  | some t =>
    { s.advance t with
      formation := { s.formation with
        closeTimer := none
        close := some
          { reclose := false, bitmap := s.formation.rollList, epoch := s.formation.highest } } }
  | none => s

/-- The re-close timer expires: a re-close is queued with the station's own bitmap and epoch (R129). -/
def State.recloseExpires (s : State) : State :=
  match s.formation.recloseTimer with
  | some t =>
    { s.advance t with
      formation := { s.formation with
        recloseTimer := none
        close := some
          { reclose := true, bitmap := s.formation.memberBitmap, epoch := s.formation.epoch } } }
  | none => s

/-- READY_TIME (R78). -/
def execReadyTime (i : Fin 8) (s : State) : Host.Outcome State Fault Refusal :=
  .next (s.onEvent fun s => s.readyAt i)

/-- DEADLINE_EXPIRY (R89). -/
def execDeadlineExpiry (i : Fin 8) (s : State) : Host.Outcome State Fault Refusal :=
  .next (s.onEvent fun s => s.expireAt i)

/-- CLOSE_TIMER_EXPIRY (R122). -/
def execCloseTimerExpiry (s : State) : Host.Outcome State Fault Refusal :=
  .next (s.onEvent State.closeExpires)

/-- RECLOSE_TIMER_EXPIRY (R129). -/
def execRecloseTimerExpiry (s : State) : Host.Outcome State Fault Refusal :=
  .next (s.onEvent State.recloseExpires)

end Sys2Proof.Machine
end

