-- ==== Sys2Proof/Machine/Window.lean ====
section
/-! DEFINITION. The close of the response window: the outcome of the frame (R106), the last winner (R101), the
sender's own sources (R111, R112), the held place (R19), evidence of life (R109), and what each block does
with a frame that the station takes (R107, R108, chapter 7). -/

namespace Sys2Proof.Machine

/-- The three response lines as every station reads them at the close (R106). -/
structure Lines where
  ack : Bool
  rty : Bool
  chk : Bool
  deriving DecidableEq, Repr

/-- The outcomes of a frame (R106). -/
inductive SendOutcome where
  | voided | taken | retry | unanswered
  deriving DecidableEq, Repr

/-- The outcome of a frame from the lines in its window (R79, R106). -/
def frameOutcome (kind : Option FrameKind) (l : Lines) : SendOutcome :=
  if l.chk then .voided
  else
    match kind with
    | some .fetch | some .update => if l.ack then .taken else if l.rty then .retry else .unanswered
    | some .data | some .refuse => if l.ack then .taken else .unanswered
    | some .publish | some .roll | some .close | some .reform => .taken
    | none => .voided

/-- The wired-OR of what the others assert and what this station drives (R97). -/
def State.readLines (s : State) (ack rty chk : Bool) : Lines :=
  { ack := ack || s.span.ack, rty := rty || s.span.rty, chk := chk || s.span.chk }

/-- The last winner becomes the winner that this station computed; one that computed none keeps its last winner
(R101; notes/assumptions/17.md). -/
def State.keepWinner (s : State) (winner : Option Station) : State :=
  match winner with
  | some w => if s.span.synced then { s with span := { s.span with lastWinner := some w } } else s
  | none => s

/-- The last winner at the close of a tenure: the sender field of an intact frame, else the winner computed
(R101). An intact frame syncs an unsynced station (R103). -/
def State.setWinner (s : State) (winner : Option Station) (heard : Option (List Byte)) : State :=
  match heard with
  | some bs =>
    if frameIntact bs then
      let s := { s with span := { s.span with lastWinner := some (Frame.ofBytes bs).sender } }
      if s.span.synced then s else s.becomeSynced
    else s.keepWinner winner
  | none => s.keepWinner winner

/-! ## The sender's own frame -/

/-- The outbound head's send (R29 to R32): a taken DATA or REFUSE leaves, a taken PUBLISH commits, anything else
counts one attempt. -/
def State.outboundSent (s : State) (f : Frame) (o : SendOutcome) : State :=
  match s.home.outbound with
  | e :: rest =>
    if e.frame = f then
      if o = .taken then
        if f.kind = some .publish then s.commitPublish f else s.popOutbound
      else
        { s with home := { s.home with outbound := { e with attempts := e.attempts + 1 } :: rest } }
    else s
  | [] => s

/-- A request's send, applied to its entry while that entry is still in use (R79 to R82). -/
def State.requestSent (s : State) (i : Fin 8) (tag : Tag) (o : SendOutcome) : State :=
  match s.tracker.entries[i] with
  | some e =>
    if e.tag = tag ∧ e.state = .queued then
      { s with
        tracker := { s.tracker with
          entries := s.tracker.entries.set i
            (some
              (match o with
              | .taken => e.taken s.clock
              | .retry => e.retried s.clock
              | .voided => e.failed s.clock true
              | .unanswered => e.failed s.clock false)) } }
    else s
  | none => s

/-- A taken ROLL or CLOSE leaves the candidates; a REFORM leaves when the station takes it (R112, R134). -/
def State.formationSent (s : State) (kind : FrameKind) (o : SendOutcome) : State :=
  if o = .taken then
    match kind with
    | .roll => { s with formation := { s.formation with roll := none } }
    | .close => { s with formation := { s.formation with close := none } }
    | .reform | .fetch | .update | .data | .publish | .refuse => s
  else s

/-- The outcome of the station's own frame goes to its source (R111). -/
def State.ownSent (s : State) (own : OwnFrame) (o : SendOutcome) : State :=
  match own.source with
  | .formation kind => s.formationSent kind o
  | .outbound => s.outboundSent own.frame o
  | .request i tag => s.requestSent i tag o

/-- ACK# or RTY# in the window of an addressed frame that this station sent is evidence that the target is
alive, even if the frame was voided (R109). -/
def State.targetEvidence (s : State) (own : OwnFrame) (l : Lines) : State :=
  match own.frame.kind with
  | some .fetch | some .update | some .data | some .refuse =>
    if l.ack || l.rty then s.evidence own.frame.target else s
  | some .publish | some .roll | some .close | some .reform | none => s

/-- A REFORM of the station's own that was taken on the Span but not by the station stays queued, its epoch
computed afresh (R134). -/
def State.requeueReform (s : State) (own : OwnFrame) (o : SendOutcome) : State :=
  if own.source = .formation .reform ∧ o = .taken ∧ s.formation.reform.isSome = true then
    { s with formation := { s.formation with reform := some (s.formation.epoch + 1) } }
  else s

/-! ## The held place -/

/-- The held place becomes an inbound entry if the frame was taken, and is released if it was not (R19). -/
def State.settlePlace (s : State) (f : Frame) (o : SendOutcome) : State :=
  if s.home.heldPlace then
    if o = .taken then
      { s with home := { s.home with
          heldPlace := false
          inbound := s.home.inbound ++
            [{ source := .span
               request := f.request
               key := f.key
               requester := f.sender
               tag := f.tag }] } }
    else { s with home := { s.home with heldPlace := false } }.retest
  else s

/-! ## Taken formation frames -/

/-- The close timer of a ROLLED station runs from now, by its rank in the roll list (R122). -/
def FormationController.startClose (f : FormationController) (self : Station) (now : Time) :
    FormationController :=
  { f with closeTimer := some (now + Timing.closeDelay (rankIn f.rollList self)) }

/-- A ROLL joins the roll list and may raise its highest proposal (R121). -/
def FormationController.addRoll (f : FormationController) (sender : Station) (proposal : Epoch) :
    FormationController :=
  { f with
    rollList := f.rollList ||| stationBit sender
    highest := if f.highest < proposal then proposal else f.highest }

/-- A ROLL at a LISTEN or ROLLED station: its own makes it ROLLED first; the list grows, a ROLLED station's close
timer restarts, and a queued CLOSE is withdrawn (R120, R121, R123). -/
def State.recordRoll (s : State) (f : Frame) (isOwn : Bool) : State :=
  let fc := if isOwn && s.formation.state == .listen then { s.formation with state := .rolled } else s.formation
  let fc := { fc.addRoll f.sender f.aux with close := none }
  { s with
    formation := if fc.state = .rolled then fc.startClose s.pins.station s.clock else fc }

/-- Adopting a formation CLOSE (R124): MEMBER if the station's own bit is set, else EXCLUDED. -/
def State.adoptClose (s : State) (f : Frame) (order : List Nat) : State :=
  let fc := { s.formation with
    closeTimer := none
    roll := none
    close := none
    rollList := 0
    highest := 0
    lateRoll := false }
  if inSet f.key s.pins.station then
    { s with
      formation := { fc with state := .member, epoch := f.epoch, members := membersOf f.key } }.retest
  else { s with formation := fc }.exclude f.epoch order

/-- A member that rolls is marked LOST, a stranger sets LATE_ROLL (R128). The station's own entry stays UP
(R125). -/
def State.markRoller (s : State) (roller : Station) (order : List Nat) : State :=
  match s.formation.find roller with
  | some m => if m.health = .lost ∨ m.station = s.pins.station then s else s.memberDown m .lost order
  | none => { s with formation := { s.formation with lateRoll := true } }

/-- A ROLL at a MEMBER: the roller is marked, and the re-close timer starts (R128). -/
def State.rollAtMember (s : State) (f : Frame) (order : List Nat) : State :=
  (s.markRoller f.sender order).startReclose f.sender

/-- The re-close timer is stopped and a queued re-close withdrawn (R129). -/
def State.stopReclose (s : State) : State :=
  { s with formation := { s.formation with recloseTimer := none, close := none } }

/-- A CLOSE agrees with the station's own epoch and bitmap (R131). -/
def State.closeAgrees (s : State) (f : Frame) : Bool :=
  f.epoch == s.formation.epoch && f.key == s.formation.memberBitmap

/-- A CLOSE at a MEMBER (R131). -/
def State.closeAtMember (s : State) (f : Frame) (order : List Nat) : State :=
  if s.closeAgrees f then s.stopReclose
  else if f.reclose then
    if f.epoch = s.formation.epoch then s.exclude f.epoch order
    else if inSet f.key s.pins.station then s.stopReclose
    else s.exclude f.epoch order
  else s.startReclose f.sender

/-! ## Frames taken in each state -/

/-- A frame of a MEMBER's own epoch (R108, R109). -/
def State.tableFrame (s : State) (f : Frame) : State :=
  let s := s.evidence f.sender
  match f.kind with
  | some .publish => s.takePublish f
  | some .data => if f.target = s.pins.station then s.takeData f else s
  | some .refuse => if f.target = s.pins.station then s.takeRefuse f else s
  | some .fetch | some .update | some .roll | some .close | some .reform | none => s

/-- What a MEMBER does with a frame whose outcome is taken (R107, R108). -/
def State.takeAtMember (s : State) (f : Frame) (order : List Nat) : State :=
  match f.kind with
  | some .roll => s.rollAtMember f order
  | some .close => (s.evidence f.sender).closeAtMember f order
  | some .reform =>
    if f.epoch = s.formation.epoch then s else s.takeReform f.sender f.epoch order
  | some .fetch | some .update | some .data | some .publish | some .refuse =>
    if f.epoch = s.formation.epoch then s.tableFrame f else s
  | none => s

/-- What a LISTEN or ROLLED station does with a frame whose outcome is taken (R107, R119, R132). -/
def State.takeForming (s : State) (f : Frame) (isOwn : Bool) (order : List Nat) : State :=
  match f.kind with
  | some .roll => s.recordRoll f isOwn
  | some .close => if f.reclose then s.exclude f.epoch order else s.adoptClose f order
  | some .reform =>
    if f.epoch = s.formation.epoch then s else s.takeReform f.sender f.epoch order
  | some .fetch | some .update | some .data | some .publish | some .refuse => s.exclude f.epoch order
  | none => s

/-- What an EXCLUDED station does with an intact frame whose window closed without CHK#: a taken REFORM of
another epoch than the heard one is taken; any other frame sets the heard epoch (R107, R133). -/
def State.hearExcluded (s : State) (f : Frame) (o : SendOutcome) (order : List Nat) : State :=
  if f.kind = some .reform ∧ o = .taken ∧ f.epoch ≠ s.formation.epoch then
    s.takeReform f.sender f.epoch order
  else { s with formation := { s.formation with epoch := f.epoch } }

/-- A frame heard whole, without CHK#, by station state (R107). -/
def State.handOn (s : State) (f : Frame) (o : SendOutcome) (isOwn : Bool) (order : List Nat) : State :=
  match s.formation.state with
  | .excluded => s.hearExcluded f o order
  | .listen => if o = .taken then s.takeForming f isOwn order else s
  | .rolled => if o = .taken then s.takeForming f isOwn order else s
  | .member => if o = .taken then s.takeAtMember f order else s

/-! ## The close -/

/-- The window ends: 1 µs after SPD± was released, the idle timer restarts, every response line is released, and
the own REQ line is noted for the arbitration point that this close makes (R97, R98, R102, R103). -/
def State.endWindow (s : State) : State :=
  let s := s.advance (s.pins.spdReleased + Timing.responseWindow)
  { s with
    span := { s.span with
      idleTimer := .running s.clock
      tenure := .quiet
      afterEmpty := false
      intruder := .absent
      reqAtClose := some (s.clock, s.span.req)
      ack := false
      rty := false
      chk := false } }

/-- The effects of a frame that was heard from its start, all at the one event of the close. -/
def State.closeHeard (s : State) (own : Option OwnFrame) (bs : List Byte) (l : Lines)
    (order : List Nat) : State :=
  let f := Frame.ofBytes bs
  let o := if frameIntact bs then frameOutcome f.kind l else .voided
  let s :=
    match own with
    | some x => (s.targetEvidence x l).ownSent x o
    | none => s
  let s := s.settlePlace f o
  let s := if l.chk || !frameIntact bs then s else s.handOn f o own.isSome order
  match own with
  | some x => s.requeueReform x o
  | none => s

/-- A window that began before this station came out of reset is open: SPD± was released less than 1 µs ago, or the
idle timer still stands (R98, R103, R116). -/
def State.unheardWindow (s : State) : Bool :=
  s.span.idleTimer == .held || decide (s.clock < s.pins.spdReleased + Timing.responseWindow)

/-- The close of a response window (R106). One that began before the station came out of reset restarts the idle
timer alone (R98, R103). SPD± that was driven inside the window is followed from here. -/
def State.closeWindow (s : State) (ack rty chk : Bool) (order : List Nat) : State :=
  match s.span.tenure with
  | .window winner own heard =>
    let closed := s.endWindow.setWinner winner heard
    let t :=
      match heard with
      | some bs => closed.closeHeard own bs (s.readLines ack rty chk) order
      | none => closed
    t.followIntruder s.span.intruder
  | .quiet =>
    match s.pins.spdSince with
    | none => if s.unheardWindow then s.endWindow else s
    | some _ => s
  | .won _ _ _ => s
  | .frame _ _ => s

/-- RESPONSE_WINDOW_CLOSE (R106). -/
def execResponseWindowClose (ack rty chk : Bool) (order : List Nat) (s : State) :
    Host.Outcome State Fault Refusal :=
  .next (s.onEvent fun s => s.closeWindow ack rty chk order)

end Sys2Proof.Machine
end

