-- ==== Sys2Proof/Machine/Dispatch.lean ====
section
/-! DEFINITION. One arm per row of the table. -/

namespace Sys2Proof.Machine

def exec (i : Instr) (s : State) : Host.Outcome State Fault Refusal :=
  match i with
  | .hardResetAssert t => Sys2Proof.Machine.execHardResetAssert t s
  | .hardResetRelease t straps => Sys2Proof.Machine.execHardResetRelease t straps s
  | .putShort spi record => Sys2Proof.Machine.execPutShort spi record s
  | .putLong spi record => Sys2Proof.Machine.execPutLong spi record s
  | .pop spi clocked code => Sys2Proof.Machine.execPop spi clocked code s
  | .stat spi clocked => Sys2Proof.Machine.execStat spi clocked s
  | .spiUnknownCode spi code received => Sys2Proof.Machine.execSpiUnknownCode spi code received s
  | .badCommand => Sys2Proof.Machine.execBadCommand s
  | .read => Sys2Proof.Machine.execRead s
  | .write => Sys2Proof.Machine.execWrite s
  | .swap => Sys2Proof.Machine.execSwap s
  | .add => Sys2Proof.Machine.execAdd s
  | .delete => Sys2Proof.Machine.execDelete s
  | .reserve => Sys2Proof.Machine.execReserve s
  | .commit => Sys2Proof.Machine.execCommit s
  | .release => Sys2Proof.Machine.execRelease s
  | .fence => Sys2Proof.Machine.execFence s
  | .watch => Sys2Proof.Machine.execWatch s
  | .unwatch => Sys2Proof.Machine.execUnwatch s
  | .drop => Sys2Proof.Machine.execDrop s
  | .reform => Sys2Proof.Machine.execReform s
  | .idleTimeout => Sys2Proof.Machine.execIdleTimeout s
  | .arbitrationPoint t req => Sys2Proof.Machine.execArbitrationPoint t req s
  | .frameStart start => Sys2Proof.Machine.execFrameStart start s
  | .emptyTenureEnd => Sys2Proof.Machine.execEmptyTenureEnd s
  | .frameHeard bytes => Sys2Proof.Machine.execFrameHeard bytes s
  | .responseWindowClose ack rty chk order => Sys2Proof.Machine.execResponseWindowClose ack rty chk order s
  | .outboundDiscard => Sys2Proof.Machine.execOutboundDiscard s
  | .publishDropped => Sys2Proof.Machine.execPublishDropped s
  | .retryLimit entry => Sys2Proof.Machine.execRetryLimit entry s
  | .attemptLimit entry => Sys2Proof.Machine.execAttemptLimit entry s
  | .readyTime entry => Sys2Proof.Machine.execReadyTime entry s
  | .deadlineExpiry entry => Sys2Proof.Machine.execDeadlineExpiry entry s
  | .memberSilent member order => Sys2Proof.Machine.execMemberSilent member order s
  | .closeTimerExpiry => Sys2Proof.Machine.execCloseTimerExpiry s
  | .recloseTimerExpiry => Sys2Proof.Machine.execRecloseTimerExpiry s
  | .inboundFetchHandled => Sys2Proof.Machine.execInboundFetchHandled s
  | .inboundUpdateHandled => Sys2Proof.Machine.execInboundUpdateHandled s
  | .noticeDelivery ahead => Sys2Proof.Machine.execNoticeDelivery ahead s

end Sys2Proof.Machine
end

