-- ==== Sys2Proof/Safety.lean ====
section
/-! DEFINITION. The terms that claims use: what a command may find when it takes place, and the laws of each block
that every step keeps (R13, R17, R40, R41, R60, R77, R97, R125, R126, R157, R158, R169). -/

namespace Sys2Proof.Machine

/-! ## When a command takes place -/

/-- Nothing is left over from the event before: an event from outside finds the station as it stands. -/
def State.atRest (s : State) : Prop :=
  s.live = true ∧ s.quiescent = true

/-- The station is out of reset and no limit waits to be acted on: a follow-on step acts on the state as it
stands. -/
def State.ready (s : State) : Prop :=
  s.live = true ∧ s.limitDue = false

/-- The row of the table for a command of the given kind at the head. -/
def CommandKind.row : CommandKind → Instr
  | .read => .read
  | .write => .write
  | .swap => .swap
  | .add => .add
  | .delete => .delete
  | .reserve => .reserve
  | .commit => .commit
  | .release => .release
  | .fence => .fence
  | .watch => .watch
  | .unwatch => .unwatch
  | .drop => .drop
  | .reform => .reform

/-- The head of the command queue is the given record, of the given kind, at a station that is ready. -/
def State.atHeadOf (s : State) (kind : CommandKind) (c : CommandRecord) : Prop :=
  s.ready ∧ s.port.commands.head? = some c ∧ CommandKind.ofCode c.kind = some kind

/-- The head passes steps 1 to 7 of R139 (R142 to R145). -/
def State.reachesStep8 (s : State) (kind : CommandKind) (c : CommandRecord) : Prop :=
  s.atHeadOf kind c ∧ formError kind c = none ∧ s.formation.state = .member ∧
    s.headBlocked kind c = false ∧ s.homeIsDown kind c = false

/-- What the command's own part of a completion without a record is (R155). -/
def plainRecord (c : CommandRecord) (key : Key) (outcome : CmdOutcome) (version : Version) : Completion :=
  { hostTag := c.hostTag, outcome := outcome, key := key, version := version, present := false, value := none }

/-- The station after an entry ended without a record: its completion joins the queue, a FILLING entry of its key
becomes FREE, its slot EMPTY, its index free, and the head is tested again (R54, R64, R69, R88, R140). -/
def State.withEntryEnded (s : State) (i : Fin 8) (e : PendingEntry) (outcome : CmdOutcome)
    (version : Version) : State :=
  { s with
    copies := if e.kind = .fetch then s.copies.endFilling e.key else s.copies
    slots :=
      match e.slot with
      | some n => s.slots.set n { s.slots[n] with state := .empty }
      | none => s.slots
    tracker := { s.tracker with entries := s.tracker.entries.set i none }
    engine := s.engine.retest
    port := { s.port with
      completions := s.port.completions ++
        [.completion
          { hostTag := e.hostTag
            outcome := outcome
            key := e.key
            version := version
            present := false
            value := none }]
      outstanding := s.port.outstanding - 1
      fresh := s.port.fresh + 1 } }

/-- A pending entry of the given kind for the command record, as R77 fills it; its tag is the allocation's. -/
def freshEntry (kind : EntryKind) (key : Key) (home : Station) (command : CommandKind) (c : CommandRecord)
    (slot : Option (Fin 4)) (update : Option Update) (now : Time) : PendingEntry :=
  { kind := kind
    key := key
    home := home
    command := command
    hostTag := c.hostTag
    slot := slot
    update := update
    tag := 0
    state := if kind = .own then .waitHome else .queued
    attempts := 0
    retries := 0
    readyTime := now
    deadline := none
    lastVoided := false }

/-- What the four updates send, from the command record (R76, R78, R148): a field that the op does not use is
zero. -/
def updateOf (c : CommandRecord) : CommandKind → Option Update
  | .write => some { op := .write, expected := 0, wordIndex := 0, value := c.value }
  | .swap => some { op := .swap, expected := c.expected, wordIndex := 0, value := c.value }
  | .add =>
    some { op := .add, expected := 0, wordIndex := c.wordIndex, value := zeroValue.set 0 c.value[0] }
  | .delete => some { op := .delete, expected := 0, wordIndex := 0, value := zeroValue }
  | _ => none

/-- The station at the close of the window of a frame, its own or another station's, heard whole: the bytes are the
frame's, no place is held, CHK# is not driven, and SPD± was quiet in the window. -/
def State.closingFrame (s : State) (winner : Option Station) (own : Option OwnFrame) (f : Frame) : Prop :=
  s.atRest ∧ s.span.tenure = .window winner own (some f.bytes) ∧ (f.long = false → f.value = zeroValue) ∧
    s.home.heldPlace = false ∧ s.span.chk = false ∧ s.span.intruder = .absent

/-- The station at the close of the window of a frame of another station. -/
def State.closingWindow (s : State) (winner : Option Station) (f : Frame) : Prop :=
  s.closingFrame winner none f

/-- The Host Port showed `x` at the moment `t`: what the station shows, if nothing has happened since `t`; else the
newest sample of a moment no later than `t` (R168, R172, R173). -/
def State.showed (s : State) (t : Time) (x : Sample) : Prop :=
  (s.clock ≤ t ∧ x.status = s.statusByte ∧ x.record = s.statusRecord) ∨
    (t < s.clock ∧ x.since ≤ t ∧
      ∃ newer older : List Sample, s.seen = newer ++ x :: older ∧ ∀ y ∈ newer, t < y.since)

/-- The station when an event of the moment `t` takes place: nothing has joined the completion queue at this event
yet, and what the Host Port has shown up to it is kept (R168, R171). -/
def State.eventAt (s : State) (t : Time) : State :=
  { s with
    clock := max s.clock t
    port := { s.port with fresh := 0 }
    seen := s.sampled }

/-- The station after the close of a response window, as far as the Span Interface goes: 1 µs after SPD± was released,
with the given last winner, every response line released and the idle timer running (R97, R98, R102, R103). -/
def State.windowClosed (s : State) (lastWinner : Option Station) : State :=
  { s.eventAt (s.pins.spdReleased + 50) with
    span := { s.span with
      lastWinner := lastWinner
      idleTimer := .running (max s.clock (s.pins.spdReleased + 50))
      tenure := .quiet
      afterEmpty := false
      intruder := .absent
      reqAtClose := some (max s.clock (s.pins.spdReleased + 50), s.span.req)
      ack := false
      rty := false
      chk := false } }

/-- The completions of the entries in use that satisfy `p`, one each, without a record (R88). -/
def State.endedRecords (s : State) (p : PendingEntry → Bool) (outcome : CmdOutcome) : List QueueRecord :=
  (List.finRange 8).filterMap fun i =>
    match s.tracker.entries[i] with
    | some e =>
      if p e = true then
        some (.completion
          { hostTag := e.hostTag
            outcome := outcome
            key := e.key
            version := 0
            present := false
            value := none })
      else none
    | none => none

/-- How many ways of a group are occupied (R41). -/
def CopyGroup.occupiedCount (g : CopyGroup) : Nat :=
  (allWays.filter fun w => g[w].occupied).length

/-- The laws of R39 to R42 in group `i`. -/
structure GroupLaw (i : Fin 64) (g : CopyGroup) : Prop where
  free_cleared : ∀ w : Fin 4, g[w].state = .free → g[w] = .cleared
  own_group : ∀ w : Fin 4, g[w].occupied = true → groupOf g[w].key = i
  key_once : ∀ v w : Fin 4, g[v].occupied = true → g[w].occupied = true → g[v].key = g[w].key → v = w
  ages_distinct : ∀ v w : Fin 4, g[v].occupied = true → g[w].occupied = true → g[v].age = g[w].age → v = w
  ages_dense : ∀ w : Fin 4, g[w].occupied = true → g[w].age < g.occupiedCount

/-- What a station lets go of, from `s` to `t`, when the member `m` leaves UP, or passes from SILENT to LOST (R55,
R67, R93, R127, R140, R162): the copies of its keys are freed, every other copy keeps key, state and record, and the
ages of a group close up, so that each copy that stays is as old as there are younger copies that stay (R42); the HELD
slots on its keys are LOST, and EMPTY where an ended entry names them; each FETCH and UPDATE entry for it
completes HOME_DOWN, in any order (R171); the ARMED watches on its keys fire HOME_DOWN and join the fired list in
ascending order of key; and the head is tested again. -/
structure MemberWithdrawn (s t : State) (m : Member) : Prop where
  copies_gone : ∀ (g : Fin 64) (w : Fin 4), t.copies[g][w].occupied = true →
    t.copies[g][w].key.toNat % s.formation.members.length ≠ m.rank ∧
      t.copies[g][w].key = s.copies[g][w].key ∧ t.copies[g][w].state = s.copies[g][w].state ∧
      t.copies[g][w].record = s.copies[g][w].record
  copies_kept : ∀ (g : Fin 64) (w : Fin 4), s.copies[g][w].occupied = true →
    s.copies[g][w].key.toNat % s.formation.members.length ≠ m.rank →
    (∀ (i : Fin 8) (e : PendingEntry), s.tracker.entries[i] = some e → e.kind = .fetch →
      e.home = m.station → e.key ≠ s.copies[g][w].key) →
    t.copies[g][w].occupied = true
  ages_close_up : ∀ (g : Fin 64) (w : Fin 4), GroupLaw g s.copies[g] → t.copies[g][w].occupied = true →
    t.copies[g][w].age =
      ((List.finRange 4).filter fun v =>
        t.copies[g][v].occupied && decide (s.copies[g][v].age < s.copies[g][w].age)).length
  slots_named : ∀ (n : Fin 4) (i : Fin 8) (e : PendingEntry), s.tracker.entries[i] = some e → e.kind ≠ .own →
    e.home = m.station → e.slot = some n → t.slots[n] = { s.slots[n] with state := .empty }
  slots_other : ∀ n : Fin 4,
    (∀ (i : Fin 8) (e : PendingEntry), s.tracker.entries[i] = some e → e.kind ≠ .own → e.home = m.station →
      e.slot ≠ some n) →
    t.slots[n] =
      if s.slots[n].state = .held ∧ s.slots[n].key.toNat % s.formation.members.length = m.rank then
        { s.slots[n] with state := .lost }
      else s.slots[n]
  entries_end : ∀ i : Fin 8, t.tracker.entries[i] =
    match s.tracker.entries[i] with
    | some e => if e.kind ≠ .own ∧ e.home = m.station then none else some e
    | none => none
  tags_kept : t.tracker.generations = s.tracker.generations ∧ t.tracker.nextIndex = s.tracker.nextIndex
  completions : ∃ new : List QueueRecord,
    new.Perm (s.endedRecords (fun e => e.kind != .own && e.home == m.station) .homeDown) ∧
    t.port = { s.port with
      completions := s.port.completions ++ new
      outstanding := s.port.outstanding - new.length
      fresh := t.port.fresh }
  watches : ∀ i : Fin 32, t.watch.entries[i] =
    if s.watch.entries[i].state = .armed ∧
        s.watch.entries[i].key.toNat % s.formation.members.length = m.rank then
      { s.watch.entries[i] with
        state := .fired
        firing :=
          { reason := .homeDown
            origin := m.station
            record := { present := false, version := 0, value := zeroValue } } }
    else s.watch.entries[i]
  fired : ∃ new : List (Fin 32), t.watch.fired = s.watch.fired ++ new ∧ new.Nodup ∧
    new.Pairwise (fun i j => s.watch.entries[i].key.toNat ≤ s.watch.entries[j].key.toNat) ∧
    ∀ i : Fin 32, i ∈ new ↔ s.watch.entries[i].state = .armed ∧
      s.watch.entries[i].key.toNat % s.formation.members.length = m.rank
  head_tested : t.engine = s.engine.retest

/-- The entry that a taken PUBLISH ends: the FETCH of a key with a FILLING copy (R87), or the origin's UPDATE or
LOCAL entry (R83, R86). -/
def State.endsAtPublish (s : State) (f : Frame) (e : PendingEntry) : Prop :=
  e.key = f.key ∧
    ((e.kind = .fetch ∧ ∃ (g : Fin 64) (w : Fin 4), s.copies[g][w].state = .filling ∧
        s.copies[g][w].key = f.key) ∨
      (f.target = s.pins.station ∧ e.tag = f.tag ∧
        ((e.kind = .update ∧ e.state = .sent ∧ e.home = f.sender) ∨ e.kind = .own)))

/-- The completion of an entry that a taken PUBLISH ends (R87, R88). -/
def publishRecord (e : PendingEntry) (f : Frame) : Completion :=
  if e.kind = .fetch then
    { hostTag := e.hostTag
      outcome := if f.present = true then .ok else .absent
      key := e.key
      version := f.version
      present := f.present
      value := some f.value }
  else
    { hostTag := e.hostTag
      outcome := .ok
      key := e.key
      version := f.version
      present := decide (e.command ≠ .delete)
      value := if e.command = .add then some f.value else none }

/-- What the blocks behind the Home Engine make of a taken PUBLISH, from `s` to `t` (R51 to R53, R65, R66, R69, R86,
R87, R140, R161): a HELD slot on the key is LOST; a copy moves to a higher version or is filled, its age kept; the
watch of the key fires CHANGED; the entry that the PUBLISH ends completes, a RESERVE's slot becoming HELD and a
COMMIT's EMPTY; and the head is tested again. -/
structure PublishTaken (s t : State) (f : Frame) : Prop where
  copies : ∀ (g : Fin 64) (w : Fin 4), t.copies[g][w] =
    if s.copies[g][w].key = f.key ∧ (s.copies[g][w].state = .filling ∨
        (s.copies[g][w].state = .valid ∧ s.copies[g][w].record.version < f.version)) then
      { s.copies[g][w] with
        state := .valid
        record := { present := f.present, version := f.version, value := f.value } }
    else s.copies[g][w]
  watch_fires : ∀ i : Fin 32, s.watch.entries[i].state ≠ .free → s.watch.entries[i].key = f.key →
    t.watch =
      { entries := s.watch.entries.set i
          { s.watch.entries[i] with
            state := .fired
            firing :=
              { reason := .changed
                origin := f.target
                record := { present := f.present, version := f.version, value := f.value } } }
        fired := if s.watch.entries[i].state = .armed then s.watch.fired ++ [i] else s.watch.fired }
  watch_stays : (∀ i : Fin 32, s.watch.entries[i].state ≠ .free → s.watch.entries[i].key ≠ f.key) →
    t.watch = s.watch
  none_ends : (∀ (i : Fin 8) (e : PendingEntry), s.tracker.entries[i] = some e → ¬ s.endsAtPublish f e) →
    t.tracker = s.tracker ∧ t.port = { s.port with fresh := 0 } ∧
      ∀ n : Fin 4, t.slots[n] =
        if s.slots[n].state = .held ∧ s.slots[n].key = f.key then { s.slots[n] with state := .lost }
        else s.slots[n]
  entry_ends : ∀ (i : Fin 8) (e : PendingEntry), s.tracker.entries[i] = some e → s.endsAtPublish f e →
    t.tracker = { s.tracker with entries := s.tracker.entries.set i none } ∧
      t.port = { s.port with
        completions := s.port.completions ++ [.completion (publishRecord e f)]
        outstanding := s.port.outstanding - 1
        fresh := 1 } ∧
      ∀ n : Fin 4, t.slots[n] =
        if e.slot = some n then
          if e.kind = .fetch then { state := .held, key := e.key, version := f.version }
          else { s.slots[n] with state := .empty }
        else if s.slots[n].state = .held ∧ s.slots[n].key = f.key then { s.slots[n] with state := .lost }
        else s.slots[n]
  head_tested : t.engine = s.engine.retest

/-- A member table with the signs of life of one station in it at the moment `now`: an UP or SILENT member is UP with
count 0 (R109, R126); the station's own entry stays (R125). -/
def aliveIn (self st : Station) (now : Time) (ms : List Member) : List Member :=
  if st = self then ms
  else ms.map fun x =>
    if x.station = st ∧ x.health ≠ .lost then { x with silence := 0, health := .up, evidenceAt := some now }
    else x

/-- The Formation Controller at the close of a response window that shows the station `st` alive (R109). -/
def State.aliveAtClose (s : State) (st : Station) : FormationController :=
  { s.formation with
    members := aliveIn s.pins.station st (max s.clock (s.pins.spdReleased + 50)) s.formation.members }

/-! ## The laws -/

/-- How many pending entries are in use (R77). -/
def RequestTracker.inUse (t : RequestTracker) : Nat :=
  (t.indices fun _ => true).length

/-- The limits of R169, and what the outstanding count counts (10.2). -/
structure PortLaw (s : State) : Prop where
  commands_bounded : s.port.commands.length ≤ 16
  outstanding_counts :
    s.port.outstanding = s.port.commands.length + s.tracker.inUse + s.formation.reformTags.length
  places_bounded : s.port.completions.length + s.port.outstanding ≤ 32

/-- The frame is a PUBLISH of the key. -/
def Frame.publishes (f : Frame) (k : Key) : Bool :=
  f.kind == some .publish && f.key == k

/-- The Home Engine's law of R17, and the sizes of its queues (R15, R16, R18). -/
structure HomeLaw (s : State) : Prop where
  store_canonical : storeWf s.home.store = true
  inbound_bounded : s.home.inbound.length + (if s.home.heldPlace = true then 1 else 0) ≤ 8
  outbound_bounded : s.home.outbound.length ≤ 8
  one_publish_per_mark : ∀ k : Key,
    (s.home.outbound.filter fun o => o.frame.publishes k).length = if s.publishing k = true then 1 else 0

/-- The Copy Table's laws, in every group. -/
def CopyLaw (s : State) : Prop :=
  ∀ i : Fin 64, GroupLaw i s.copies[i]

/-- The Request Tracker's law of R77, the one command in flight per key and per slot (R60, R144). -/
structure TrackerLaw (s : State) : Prop where
  tag_names_index : ∀ i e, s.tracker.entries[i] = some e → e.tag.toNat % 8 = (i : Fin 8).val
  one_per_key : ∀ (i j : Fin 8) (e e' : PendingEntry),
    s.tracker.entries[i] = some e → s.tracker.entries[j] = some e' → e.key = e'.key → i = j
  one_per_slot : ∀ (i j : Fin 8) (e e' : PendingEntry) (n : Fin 4),
    s.tracker.entries[i] = some e → s.tracker.entries[j] = some e' → e.slot = some n → e'.slot = some n → i = j
  committing_in_flight : ∀ n : Fin 4, s.slots[n].state = .committing →
    ∃ (i : Fin 8) (e : PendingEntry), s.tracker.entries[i] = some e ∧ e.slot = some n

/-- The Watch Unit's laws of R157 and R158. -/
structure WatchLaw (s : State) : Prop where
  fired_once : s.watch.fired.Nodup
  fired_listed : ∀ i : Fin 32, i ∈ s.watch.fired ↔ s.watch.entries[i].state = .fired
  key_once : ∀ i j : Fin 32, s.watch.entries[i].inUse = true → s.watch.entries[j].inUse = true →
    s.watch.entries[i].key = s.watch.entries[j].key → i = j
  armed_clear : ∀ i : Fin 32, s.watch.entries[i].state = .armed → s.watch.entries[i].firing = .cleared
  free_cleared : ∀ i : Fin 32, s.watch.entries[i].state = .free → s.watch.entries[i] = .cleared

/-- The member table's laws of R125 and R126, and what each station state rules out (R121, R123, R129, R132). -/
structure MemberLaw (s : State) : Prop where
  table_of_member : s.formation.state ≠ .member → s.formation.members = []
  self_listed : s.formation.state = .member → ∃ m ∈ s.formation.members, m.station = s.pins.station
  stations_ascend : (s.formation.members.map fun m => m.station.toNat).Pairwise (· < ·)
  ranks_count : s.formation.members.map Member.rank = List.range s.formation.members.length
  self_up : ∀ m ∈ s.formation.members, m.station = s.pins.station → m.health = .up ∧ m.silence = 0
  silence_bounded : ∀ m ∈ s.formation.members, m.silence ≤ 3
  silent_at_three : ∀ m ∈ s.formation.members, m.health = .silent → m.silence = 3
  close_timer_rolled : s.formation.closeTimer ≠ none → s.formation.state = .rolled
  reclose_timer_member : s.formation.recloseTimer ≠ none → s.formation.state = .member
  roll_list_forming : s.formation.state = .member ∨ s.formation.state = .excluded →
    s.formation.rollList = 0 ∧ s.formation.highest = 0 ∧ s.formation.roll = none

/-- The Span Interface's laws of R97, R101 to R104 and R116. -/
structure SpanLaw (s : State) : Prop where
  unsynced_silent : s.span.synced = false →
    s.span.req = false ∧ s.span.lastWinner = none ∧ s.formation.state = .listen
  synced_winner : s.span.synced = true → s.span.lastWinner ≠ none
  won_synced : ∀ w since own, s.span.tenure = .won w since own → s.span.synced = true
  frame_winner : ∀ w own, s.span.tenure = .frame w own →
    s.span.idleTimer = .held ∧ (w ≠ none → s.span.synced = true)
  window_winner : ∀ w own heard, s.span.tenure = .window w own heard →
    s.span.idleTimer = .held ∧ (w ≠ none → s.span.synced = true)
  lines_in_window : s.span.ack = true ∨ s.span.rty = true ∨ s.span.chk = true →
    ∃ w own heard, s.span.tenure = .window w own heard
  intruder_in_window : s.span.intruder ≠ .absent → ∃ w own heard, s.span.tenure = .window w own heard
  intruder_driven : ∀ w own heard, s.span.tenure = .window w own heard →
    (s.pins.spdSince ≠ none ↔ ∃ b, s.span.intruder = .driven b)
  idle_while_quiet : s.live = true → s.pins.spdSince ≠ none → s.span.idleTimer = .held
  chk_alone : s.span.chk = true → s.span.ack = false ∧ s.span.rty = false
  reset_releases : s.pins.resetLow ≠ none →
    s.span.req = false ∧ s.span.ack = false ∧ s.span.rty = false ∧ s.span.chk = false ∧
      s.span.tenure = .quiet

end Sys2Proof.Machine
end

