-- ==== Sys2Proof/Certificates/Slice0/Obligations.lean ====
section
/-! DEFINITION. The statements about the model, one Prop each; OBLIGATIONS.json lists them. A statement about what a
command does says that `exec` answers a next state and says, field by field or as one record, what that state
is: whatever the record does not name is as it was. `State.refreshReq` at the end of a state is the REQ line
following the transmit candidates, which `RequestLineFollowsCandidates` states. -/

open Sys2Proof Sys2Proof.Machine

/-! ## Steps, and which commands may stop -/

/-- A step takes the command at the front of the queue and runs it with the queue's rest. On an empty queue the
station idles: that is the model's choice (notes/assumptions/4.md). -/
def Obligations.StepRunsFrontCommand : Prop :=
  (∀ (s : State) (c : Instr) (rest : List Instr),
    s.pending = c :: rest → step s = exec c { s with pending := rest }) ∧
  ∀ s : State, s.pending = [] → step s = .next s

/-- A command changes everything but the queue of commands. -/
def Obligations.ExecKeepsPendingQueue : Prop :=
  ∀ (c : Instr) (s t : State), exec c s = .next t → t.pending = s.pending

/-- Every command answers a next state in every state, but for a HARD_RESET_RELEASE that ends a low pulse of less
than 20 CLK cycles on RESET#, which faults (Pins and Ratings; notes/assumptions/7.md). -/
def Obligations.OnlyShortResetPulseStops : Prop :=
  ∀ (c : Instr) (s : State),
    (∃ t, exec c s = .next t ∧
      ∀ u straps since, c = .hardResetRelease u straps → s.pins.resetLow = some since →
        since + 20 ≤ max s.clock u) ∨
    (exec c s = .fault .resetPulseTooShort ∧
      ∃ u straps since, c = .hardResetRelease u straps ∧ s.pins.resetLow = some since ∧
        max s.clock u < since + 20)

/-- The REQ line after every event at a station out of reset (R102): released by an unsynced station and without a
transmit candidate, asserted by a synced station that has one, but for the last microsecond before the idle limit. In
that microsecond a released line stays released, whatever candidate arises, and an asserted one stays asserted while
there is a candidate. The candidates are a queued formation frame, the outbound head and a QUEUED entry whose ready time has
come, the last two while no limit of R30, R33, R80 or R81 has ended them. -/
def Obligations.RequestLineFollowsCandidates : Prop :=
  ∀ (c : Instr) (s t : State), s.live = true → exec c s = .next t → t.live = true →
    (∀ u straps, c ≠ .hardResetRelease u straps) →
    let candidate : Prop :=
      t.formation.reform ≠ none ∨ t.formation.roll ≠ none ∨ t.formation.close ≠ none ∨
      (∃ o rest, t.home.outbound = o :: rest ∧ o.attempts < 8) ∨
      ∃ (i : Fin 8) (e : PendingEntry), t.tracker.entries[i] = some e ∧ e.state = .queued ∧
        e.readyTime ≤ t.clock ∧ e.attempts < 8 ∧ e.retries < 16
    (t.span.req = true → t.span.synced = true ∧ candidate) ∧
    (t.span.synced = true → candidate →
      (∀ since, t.span.idleTimer = .running since → t.clock < since + 9950) → t.span.req = true) ∧
    ((∃ since, t.span.idleTimer = .running since ∧ since + 9950 ≤ t.clock) →
      (s.atRest ∨ ∃ since, s.span.idleTimer = .running since ∧ since + 9950 ≤ s.clock) →
      s.span.req = false → t.span.req = false) ∧
    (s.atRest → s.span.req = true → t.span.synced = true → candidate → t.span.req = true)

/-! ## Hard reset -/

/-- RESET# falls (R97, R116, R167): every Span line and SDO are released, no window is taken part in, and a frame
that the station is driving ends. That every block behind the pins stays as it was while RESET# is low is the model's
choice (notes/assumptions/19.md); RESET# rising gives each its reset value. While RESET# is low no command but RESET#
rising and the level of SPD± changes anything: an SPI transaction is ignored (R167), and SPD± that others drive or
release is followed (R103, R116; notes/assumptions/19.md), where a frame whose start the station was not told ends at
the station's clock or later (notes/assumptions/17.md). SPD± that was released inside a window open at the fall of RESET#
counts as released at that release (notes/assumptions/29.md). -/
def Obligations.ResetAssertReleasesTheLines : Prop :=
  (∀ (s : State) (u : Time), s.live = true →
    ∃ t, exec (.hardResetAssert u) s = .next t ∧ t.clock = max s.clock u ∧
      t.pins.resetLow = some (max s.clock u) ∧ t.pins.station = s.pins.station ∧
      t.pins.resetRose = s.pins.resetRose ∧
      ((∃ w own, s.span.tenure = .frame w (some own)) →
        t.pins.spdSince = none ∧ t.pins.spdReleased = max s.clock u) ∧
      ((¬ ∃ w own, s.span.tenure = .frame w (some own)) →
        t.pins.spdSince = s.pins.spdSince ∧
          t.pins.spdReleased =
            (match s.span.intruder with
            | .released since _ => since
            | .driven _ => s.pins.spdReleased
            | .absent => s.pins.spdReleased)) ∧
      t.span = { s.span with
        tenure := .quiet
        afterEmpty := false
        intruder := .absent
        req := false
        reqAtClose := none
        ack := false
        rty := false
        chk := false } ∧
      t.formation = s.formation ∧ t.home = s.home ∧ t.copies = s.copies ∧ t.slots = s.slots ∧
      t.tracker = s.tracker ∧ t.engine = s.engine ∧ t.watch = s.watch ∧
      t.port = { s.port with sdo := [] } ∧ t.seen = s.seen) ∧
  ∀ s : State, s.live = false →
    (∀ c : Instr, (∀ u straps, c ≠ .hardResetRelease u straps) → (∀ start, c ≠ .frameStart start) →
      (∀ bytes, c ≠ .frameHeard bytes) → exec c s = .next s) ∧
    (∀ start : SpdStart, exec (.frameStart start) s = .next { s with
      clock := max s.clock start.time
      pins := { s.pins with spdSince := some (s.pins.spdSince.getD (max s.clock start.time)) } }) ∧
    ∀ bytes : List Byte,
      let now : Time := max s.clock (s.pins.spdSince.getD s.clock + 4 + 4 * bytes.length)
      exec (.frameHeard bytes) s = .next { s with
        clock := now
        pins := { s.pins with spdSince := none, spdReleased := now } }

/-- RESET# rises after 20 CLK cycles or more: the straps are sampled and every block takes its reset values (R14,
R36, R57, R74, R96, R116, R118, R138, R157, R158, R176). -/
def Obligations.ResetReleaseResetsEveryBlock : Prop :=
  ∀ (s : State) (since u : Time) (straps : Station),
    s.pins.resetLow = some since → since + 20 ≤ max s.clock u →
    ∃ t, exec (.hardResetRelease u straps) s = .next t ∧ t.clock = max s.clock u ∧
      t.pins = { resetLow := none
                 station := straps
                 spdSince := s.pins.spdSince
                 spdReleased := s.pins.spdReleased
                 resetRose := max s.clock u } ∧
      t.span = { synced := false
                 lastWinner := none
                 idleTimer := if s.pins.spdSince = none then .running (max s.clock u) else .held
                 tenure := .quiet
                 afterEmpty := false
                 intruder := .absent
                 req := false
                 reqAtClose := none
                 ack := false
                 rty := false
                 chk := false } ∧
      t.formation = { state := .listen
                      epoch := 0
                      proposal := 0
                      rollList := 0
                      highest := 0
                      closeTimer := none
                      recloseTimer := none
                      members := []
                      lateRoll := false
                      reform := none
                      roll := none
                      close := none
                      reformTags := [] } ∧
      (∀ k : Key, t.committed k = { present := false, version := 0, value := zeroValue } ∧
        t.publishing k = false) ∧
      t.home.inbound = [] ∧ t.home.heldPlace = false ∧ t.home.outbound = [] ∧
      (∀ (g : Fin 64) (w : Fin 4), t.copies[g][w] =
        { state := .free
          key := 0
          record := { present := false, version := 0, value := zeroValue }
          age := 0 }) ∧
      (∀ n : Fin 4, t.slots[n] = { state := .empty, key := 0, version := 0 }) ∧
      (∀ i : Fin 8, t.tracker.entries[i] = none ∧ t.tracker.generations[i] = 0) ∧ t.tracker.nextIndex = 0 ∧
      t.engine = { headStatus := .none, fenceWait := false } ∧
      (∀ i : Fin 32, t.watch.entries[i] =
        { state := .free
          key := 0
          cookie := 0
          every := false
          firing :=
            { reason := .changed
              origin := 0
              record := { present := false, version := 0, value := zeroValue } } }) ∧
      t.watch.fired = [] ∧ t.port.commands = [] ∧ t.port.completions = [] ∧ t.port.outstanding = 0 ∧
      t.port.putRefused = false ∧ t.port.torn = false ∧ t.port.attn = false ∧ t.seen = []

/-! ## The laws that every step keeps -/

/-- The state after hard reset keeps every law. -/
def Obligations.ResetStateIsLawful : Prop :=
  PortLaw State.reset ∧ HomeLaw State.reset ∧ CopyLaw State.reset ∧ TrackerLaw State.reset ∧
    WatchLaw State.reset ∧ MemberLaw State.reset ∧ SpanLaw State.reset

/-- Every step keeps the law of the Host Port's places: at most 16 commands, and records queued and commands
outstanding at most 32 together, the outstanding count being the commands in the queue, in the pending table
and at the Formation Controller (R169). -/
def Obligations.EveryStepKeepsPortLaw : Prop :=
  ∀ s t : State, PortLaw s → step s = .next t → PortLaw t

/-- Every step keeps the law of R17: one PUBLISH in the outbound queue for each marked key and none for any
other; the queues keep their sizes and the home store its canonical form. -/
def Obligations.EveryStepKeepsHomeLaw : Prop :=
  ∀ s t : State, HomeLaw s → step s = .next t → HomeLaw t

/-- Every step keeps the order of use of every group: the ages of the occupied ways are 0 to n - 1, each once; no
key has two entries, and each lies in its own group; a FREE way is cleared (R39 to R42). -/
def Obligations.EveryStepKeepsCopyLaw : Prop :=
  ∀ s t : State, CopyLaw s → step s = .next t → CopyLaw t

/-- Every step keeps the pending table's law: a tag names its index, one entry per key and per slot, and a
COMMITTING slot has its entry (R60, R77, R144). -/
def Obligations.EveryStepKeepsTrackerLaw : Prop :=
  ∀ s t : State, TrackerLaw s → step s = .next t → TrackerLaw t

/-- Every step keeps the fired list exactly the FIRED entries, each once, and one watch per key (R157, R158). -/
def Obligations.EveryStepKeepsWatchLaw : Prop :=
  ∀ s t : State, WatchLaw s → step s = .next t → WatchLaw t

/-- Every step keeps the member table's law: ranks 0 to P - 1 in ascending station number, the own entry UP, SILENT
only at three silences, and no table outside MEMBER state (R125, R126). -/
def Obligations.EveryStepKeepsMemberLaw : Prop :=
  ∀ s t : State, MemberLaw s → step s = .next t → MemberLaw t

/-- Every step keeps the Span Interface's law: an unsynced station requests nothing and knows no winner, response
lines are driven only in a window, CHK# never beside ACK# or RTY#, the idle timer stands at its start while SPD± is driven
and in a window, and nothing is driven in reset (R97, R102 to R104, R116). The law keeps the model's own record of SPD±
driven inside a window (notes/assumptions/29.md) in step with SPD± and the window. -/
def Obligations.EveryStepKeepsSpanLaw : Prop :=
  ∀ s t : State, SpanLaw s → step s = .next t → SpanLaw t

/-! ## The host port -/

/-- A PUT ends (R167 to R170, R174): torn when too few record bytes came, accepted when the command queue and the
completion queue have room, refused otherwise; the accepted record is read from its bytes, little-endian. What is
shifted out is the status byte that the Host Port showed at the fall of CS#, then zero bytes; a transaction whose CS#
fell before RESET# rose is ignored. How the moments of a transaction stand in the model is the model's reading
(notes/assumptions/5.md). -/
def Obligations.PutIsTornAcceptedOrRefused : Prop :=
  ∀ (s : State) (spi : Transaction) (record : List Byte) (long : Bool), s.atRest →
    let row : Instr := if long = true then .putLong spi record else .putShort spi record
    let size : Nat := if long = true then 44 else 12
    let after (sdo : List Byte) : State :=
      { s.eventAt spi.rose with port := { s.port with sdo := sdo, fresh := 0 }, seen := [] }
    let room : Prop := s.port.commands.length < 16 ∧ s.port.completions.length + s.port.outstanding < 32
    let b (i : Nat) : Byte := record.getD i 0
    let word (i : Nat) : Word := (b (i + 3) ++ b (i + 2)) ++ (b (i + 1) ++ b i)
    (spi.fell < s.pins.resetRose → exec row s = .next (after []).refreshReq) ∧
    ∀ x : Sample, s.showed spi.fell x → s.pins.resetRose ≤ spi.fell →
      let done : State := after (x.status :: List.replicate record.length 0)
      (record.length < size →
        exec row s = .next ({ done with port := { done.port with torn := true } } : State).refreshReq) ∧
      (size ≤ record.length → room →
        exec row s = .next ({ done with
          port := { done.port with
            commands := s.port.commands ++
              [{ long := long
                 kind := b 0
                 hostTag := b 1
                 key := b 3 ++ b 2
                 slot := b 4
                 flags := b 5
                 wordIndex := b 6
                 zeroByte := b 7
                 expected := word 8
                 value :=
                  if long = true then Vector.ofFn fun w : Fin 8 => word (12 + 4 * w.val) else zeroValue }]
            outstanding := s.port.outstanding + 1 }
          engine :=
            if s.port.commands = [] then { s.engine with headStatus := .testing } else s.engine } :
              State).refreshReq) ∧
      (size ≤ record.length → ¬ room →
        exec row s = .next ({ done with port := { done.port with putRefused := true } } : State).refreshReq)

/-- A POP ends (R167, R168, R172, R175): if the completion queue held a record at the end of the code byte, its head is
shifted out, behind the status byte of the fall of CS#, and leaves the queue exactly when all its 44 bytes were
clocked out; otherwise zero bytes are shifted out and nothing leaves. The 44 bytes of a completion and of a notice are
written out, little-endian, with the codes of R156 and R166. The moments inside the transaction are the model's reading
(notes/assumptions/5.md). -/
def Obligations.PopRemovesAWholeRecord : Prop :=
  ∀ (s : State) (spi : Transaction) (clocked : Nat) (code : Time), s.atRest →
    let after (completions : List QueueRecord) (sdo : List Byte) : State :=
      { s.eventAt spi.rose with
        port := { s.port with completions := completions, sdo := sdo, fresh := 0 }
        seen := [] }
    let two (x : BitVec 16) : List Byte := [x.setWidth 8, (x >>> 8).setWidth 8]
    let four (x : BitVec 32) : List Byte :=
      [x.setWidth 8, (x >>> 8).setWidth 8, (x >>> 16).setWidth 8, (x >>> 24).setWidth 8]
    let value (v : Value) : List Byte := (List.finRange 8).flatMap fun w => four v[w]
    let bytes (r : QueueRecord) : List Byte :=
      match r with
      | .completion c =>
        ([1, c.hostTag,
          match c.outcome with
          | .ok => 0
          | .absent => 1
          | .versionMismatch => 2
          | .versionLimit => 3
          | .noReservation => 4
          | .lost => 5
          | .homeSilent => 6
          | .homeBusy => 7
          | .homeDown => 8
          | .spanFault => 9
          | .reformed => 10
          | .notMember => 11
          | .badCommand => 12
          | .badKey => 13
          | .badField => 14
          | .watchFull => 15,
          (if c.present = true then 1 else 0) + (if c.value = none then 0 else 2)] : List Byte) ++
          two c.key ++ [0, 0] ++ four c.version ++ value (c.value.getD zeroValue)
      | .notice n =>
        ([2, 0,
          match n.reason with
          | .changed => 1
          | .homeDown => 2
          | .reformed => 3,
          (if n.record.present = true then 1 else 0) + (if n.reason = .changed then 2 else 0) +
            n.origin.setWidth 8 <<< 4] : List Byte) ++
          two n.key ++ two n.cookie ++ four n.record.version ++ value n.record.value
    (spi.fell < s.pins.resetRose →
      exec (.pop spi clocked code) s = .next (after s.port.completions []).refreshReq) ∧
    ∀ x y : Sample, s.showed spi.fell x → s.showed code y → s.pins.resetRose ≤ spi.fell →
      (s.port.completions = [] ∨ y.status.getLsbD 1 = false →
        exec (.pop spi clocked code) s =
          .next (after s.port.completions (x.status :: List.replicate clocked 0)).refreshReq) ∧
      (∀ (r : QueueRecord) (rest : List QueueRecord),
        s.port.completions = r :: rest → y.status.getLsbD 1 = true →
          (bytes r).length = 44 ∧
          (clocked < 44 →
            exec (.pop spi clocked code) s =
              .next (after s.port.completions (x.status :: (bytes r).take clocked)).refreshReq) ∧
          (44 ≤ clocked →
            exec (.pop spi clocked code) s =
              .next (after rest
                (x.status :: (bytes r ++ List.replicate (clocked - 44) 0))).refreshReq))

/-- A STAT ends (R137, R167, R168, R173): behind the status byte of the fall of CS#, the status record of the end of the
code byte is shifted out, unchanged, and PUT_REFUSED and TORN are cleared exactly when all of its 16 bytes were. The
record that a station shows is written out, the two bitmaps bit by bit from the member table. The moments inside the
transaction are the model's reading (notes/assumptions/5.md). -/
def Obligations.StatReturnsTheStatusRecord : Prop :=
  ∀ (s : State) (spi : Reading) (clocked : Nat), s.atRest →
    let state : Byte :=
      match s.formation.state with
      | .listen => 0
      | .rolled => 1
      | .member => 2
      | .excluded => 3
    let flags : Byte :=
      (if s.formation.lateRoll = true then 1 else 0) + (if s.port.putRefused = true then 2 else 0) +
        (if s.port.torn = true then 4 else 0)
    let after (refused torn : Bool) (sdo : List Byte) : State :=
      { s.eventAt spi.rose with
        port := { s.port with putRefused := refused, torn := torn, sdo := sdo, fresh := 0 }
        seen := [] }
    (∃ members up : StationSet,
      (∀ n : Station, members.getLsbD n.toNat = true ↔
        s.formation.state = .member ∧ ∃ m ∈ s.formation.members, m.station = n) ∧
      (∀ n : Station, up.getLsbD n.toNat = true ↔
        s.formation.state = .member ∧ ∃ m ∈ s.formation.members, m.station = n ∧ m.health = .up) ∧
      s.statusRecord =
        [state, s.pins.station.setWidth 8, s.formation.epoch, flags,
          members.setWidth 8, (members >>> 8).setWidth 8, up.setWidth 8, (up >>> 8).setWidth 8,
          BitVec.ofNat 8 s.port.commands.length, BitVec.ofNat 8 s.port.completions.length,
          BitVec.ofNat 8 s.port.outstanding, 0, 0, 0, 0, 0]) ∧
    (spi.fell < s.pins.resetRose →
      exec (.stat spi clocked) s = .next (after s.port.putRefused s.port.torn []).refreshReq) ∧
    ∀ x y : Sample, s.showed spi.fell x → s.showed spi.code y → s.pins.resetRose ≤ spi.fell →
      let sdo : List Byte :=
        x.status :: (y.record.take clocked ++ List.replicate (clocked - y.record.length) 0)
      (clocked < 16 →
        exec (.stat spi clocked) s = .next (after s.port.putRefused s.port.torn sdo).refreshReq) ∧
      (16 ≤ clocked → exec (.stat spi clocked) s = .next (after false false sdo).refreshReq)

/-- The code byte decides what a transaction does (R167): 1 is a PUT of a short record, 2 a PUT of a long one, 3 a POP
and 4 a STAT. A transaction of any other code returns the status byte and zero bytes and changes nothing; the status byte
that a station shows is ROOM, ATTN and the station state, and a transaction returns that of the fall of CS# (R168). A
transaction cut short in its code byte returns no byte beyond it. The moments inside the transaction are the model's
reading (notes/assumptions/5.md). -/
def Obligations.UnknownCodeReturnsStatusByteOnly : Prop :=
  (∀ (s : State) (spi : Reading) (received : List Byte),
    exec (.spiUnknownCode spi (some 1) received) s = exec (.putShort spi.toTransaction received) s ∧
    exec (.spiUnknownCode spi (some 2) received) s = exec (.putLong spi.toTransaction received) s ∧
    exec (.spiUnknownCode spi (some 3) received) s =
      exec (.pop spi.toTransaction received.length spi.code) s ∧
    exec (.spiUnknownCode spi (some 4) received) s = exec (.stat spi received.length) s) ∧
  ∀ (s : State) (spi : Reading) (code : Option Byte) (received : List Byte), s.atRest →
    let after (sdo : List Byte) : State :=
      { s.eventAt spi.rose with port := { s.port with sdo := sdo, fresh := 0 }, seen := [] }
    (spi.fell < s.pins.resetRose →
      exec (.spiUnknownCode spi code received) s = .next (after []).refreshReq) ∧
    (∀ x : Sample, s.showed spi.fell x → s.pins.resetRose ≤ spi.fell →
      (∀ c : Byte, code = some c → c.toNat ∉ [1, 2, 3, 4]) →
      exec (.spiUnknownCode spi code received) s =
        .next (after
          (x.status :: List.replicate (if code = none then 0 else received.length) 0)).refreshReq) ∧
    s.statusByte.toNat =
      (if s.port.commands.length < 16 ∧ s.port.completions.length + s.port.outstanding < 32 then 1 else 0) +
      (if s.port.completions = [] then 0 else 2) +
      4 * (match s.formation.state with
        | .listen => 0
        | .rolled => 1
        | .member => 2
        | .excluded => 3)

/-! ## The head of the command queue -/

/-- The checks of form in their order, and what a command that fails one does in every station state: it completes
at once with version 0, present false and no value, and touches nothing but the queues (R142, R155). A command of
kind 0 or 14 to 255 completes BAD_COMMAND in any station state, with the key field as written (R141). -/
def Obligations.MalformedCommandCompletesAtOnce : Prop :=
  (∀ (s : State) (kind : CommandKind) (c : CommandRecord) (outcome : CmdOutcome), s.atHeadOf kind c →
     let failed : Option CmdOutcome :=
       if kind ∉ [.commit, .release, .fence, .reform] ∧ 4096 ≤ c.key.toNat then some .badKey
       else if kind ∈ [.write, .swap, .add, .commit] ∧ c.long = false then some .badField
       else if kind ∈ [.reserve, .commit, .release] ∧ 4 ≤ c.slot.toNat then some .badField
       else if kind = .add ∧ 8 ≤ c.wordIndex.toNat then some .badField
       else if c.zeroByte ≠ 0 then some .badField
       else none
     let key : Key :=
       if kind = .fence ∨ kind = .reform then 0
       else if h : (kind = .commit ∨ kind = .release) ∧ c.slot.toNat < 4 then
         (s.slots[c.slot.toNat]'h.2).key
       else c.key
     failed = some outcome →
     exec kind.row s = .next ({ s with
       port := { s.port with
         commands := s.port.commands.tail
         completions := s.port.completions ++ [.completion (plainRecord c key outcome 0)]
         outstanding := s.port.outstanding - 1
         fresh := 0 }
       engine :=
         { headStatus := if s.port.commands.tail = [] then .none else .testing
           fenceWait := false } } : State).refreshReq) ∧
  (∀ (s : State) (c : CommandRecord), s.ready → s.port.commands.head? = some c →
     (c.kind.toNat = 0 ∨ 14 ≤ c.kind.toNat) →
     exec .badCommand s = .next (s.finishHead (plainRecord c c.key .badCommand 0)).refreshReq)

/-- A well-formed command other than REFORM outside MEMBER state (R143): NOT_MEMBER at once in EXCLUDED state, a
wait in LISTEN and ROLLED. That a FENCE waiting there sets the FENCE wait is the model's choice
(notes/assumptions/12.md). -/
def Obligations.StationStateDecidesTheHead : Prop :=
  ∀ (s : State) (kind : CommandKind) (c : CommandRecord), s.atHeadOf kind c → formError kind c = none →
    kind ≠ .reform →
    (s.formation.state = .excluded →
      exec kind.row s =
        .next (s.finishHead (plainRecord c (s.completionKey kind c) .notMember 0)).refreshReq) ∧
    (s.formation.state = .listen ∨ s.formation.state = .rolled →
      exec kind.row s = .next ({ s with
        engine := { headStatus := .waiting, fenceWait := kind == .fence } } : State).refreshReq)

/-- The head waits while the key it acts on has a pending entry, and a RESERVE, COMMIT or RELEASE while a pending
entry names its slot (R144). The key is the command's, or the slot's for COMMIT and RELEASE; a RESERVE waits for
both. -/
def Obligations.HeadWaitsForItsKeyAndSlot : Prop :=
  ∀ (s : State) (kind : CommandKind) (c : CommandRecord) (i : Fin 8) (e : PendingEntry), s.atHeadOf kind c →
    formError kind c = none → s.formation.state = .member → s.tracker.entries[i] = some e →
    ((kind ∉ [.commit, .release, .fence, .reform] ∧ e.key = c.key) ∨
      (kind ∈ [.reserve, .commit, .release] ∧
        ∃ h : c.slot.toNat < 4, e.key = s.slots[c.slot.toNat].key ∨ e.slot = some ⟨c.slot.toNat, h⟩)) →
    exec kind.row s = .next ({ s with
      engine := { headStatus := .waiting, fenceWait := false } } : State).refreshReq

/-- A READ, WRITE, SWAP, ADD, DELETE or RESERVE whose home is SILENT or LOST completes HOME_DOWN; a RESERVE's slot
becomes EMPTY with its key and version kept (R145). -/
def Obligations.DepartedHomeCompletesHomeDown : Prop :=
  ∀ (s : State) (kind : CommandKind) (c : CommandRecord) (m : Member), s.atHeadOf kind c →
    formError kind c = none → s.formation.state = .member → s.headBlocked kind c = false →
    kind ∈ [.read, .write, .swap, .add, .delete, .reserve] → s.formation.homeOf c.key = some m →
    m.health ≠ .up →
    let done : State := s.finishHead (plainRecord c c.key .homeDown 0)
    (kind ≠ .reserve → exec kind.row s = .next done.refreshReq) ∧
    (∀ n : Fin 4, kind = .reserve → c.slot.toNat = n.val →
      exec kind.row s =
        .next ({ done with slots := s.slots.set n { s.slots[n] with state := .empty } } : State).refreshReq)

/-! ## The commands -/

/-- A READ served at once (R34, R43, R146): from the home store unless the key is publishing, which makes it wait,
or from a VALID copy unless FRESH is set, which touches the copy; the completion carries the record whole. Any
other READ of a remote key is dispatched as a FETCH (R44 to R47, R77): an entry with the home that the member
table gives is allocated, a copy under refresh is touched, a key without an entry claims a way unless NOCOPY is
set, and the command leaves the head. With the pending table full it waits. In the Copy Table, a key's group is the
key modulo 64 and its entry the way there that holds it (R39); a touch makes the way's age 0 and raises the younger
ones by 1 (R41); a miss claims the FREE way of the lowest number, else the VALID way of the highest age, else none,
and the way claimed is FILLING with age 0 (R44, R45). -/
def Obligations.ReadIsServedOrDispatched : Prop :=
  (∀ (s : State) (c : CommandRecord), s.reachesStep8 .read c →
     let completion (r : TableRecord) : Completion :=
       { hostTag := c.hostTag
         outcome := if r.present = true then .ok else .absent
         key := c.key
         version := r.version
         present := r.present
         value := some r.value }
     (s.ownHome c.key = true → s.publishing c.key = false →
       exec .read s = .next (s.finishHead (completion (s.committed c.key))).refreshReq) ∧
     (s.ownHome c.key = true → s.publishing c.key = true →
       exec .read s = .next ({ s with
         engine := { headStatus := .waiting, fenceWait := false } } : State).refreshReq) ∧
     (∀ e : CopyEntry, s.ownHome c.key = false → c.flags.getLsbD 0 = false →
       s.copies.entry c.key = some e → e.state = .valid →
       exec .read s = .next
         ({ s with copies := s.copies.touchKey c.key }.finishHead (completion e.record)).refreshReq)) ∧
  (∀ (s : State) (c : CommandRecord) (m : Member), s.reachesStep8 .read c → s.ownHome c.key = false →
     s.formation.homeOf c.key = some m →
     (c.flags.getLsbD 0 = true ∨ s.copies.entry c.key = none) →
     (∀ i : Fin 8, s.tracker.freeIndex = some i →
       exec .read s = .next ({ s with
         tracker := s.tracker.allocate i (freshEntry .fetch c.key m.station .read c none none s.clock)
         copies :=
           if s.copies.entry c.key ≠ none then s.copies.touchKey c.key
           else if c.flags.getLsbD 1 = true then s.copies
           else s.copies.claimKey c.key } : State).leaveHead.refreshReq) ∧
     (s.tracker.freeIndex = none →
       exec .read s = .next ({ s with
         engine := { headStatus := .waiting, fenceWait := false } } : State).refreshReq)) ∧
  ∀ (copies : CopyTable) (k : Key) (g : Fin 64), (∀ i : Fin 64, GroupLaw i copies[i]) →
    g.val = k.toNat % 64 →
    (∀ e : CopyEntry, copies.entry k = some e ↔
      ∃ w : Fin 4, copies[g][w] = e ∧ e.state ≠ .free ∧ e.key = k) ∧
    (∀ h : Fin 64, h ≠ g → (copies.touchKey k)[h] = copies[h] ∧ (copies.claimKey k)[h] = copies[h]) ∧
    (∀ w : Fin 4, copies[g][w].state ≠ .free → copies[g][w].key = k →
      ∀ v : Fin 4, (copies.touchKey k)[g][v] =
        { copies[g][v] with
          age :=
            if v = w then 0
            else if copies[g][v].state ≠ .free ∧ copies[g][v].age < copies[g][w].age then
              copies[g][v].age + 1
            else copies[g][v].age }) ∧
    (∀ w : Fin 4,
      ((copies[g][w].state = .free ∧ ∀ v : Fin 4, v < w → copies[g][v].state ≠ .free) ∨
        ((∀ v : Fin 4, copies[g][v].state ≠ .free) ∧ copies[g][w].state = .valid ∧
          ∀ v : Fin 4, copies[g][v].state = .valid → copies[g][v].age ≤ copies[g][w].age)) →
      (copies.claimKey k)[g][w] =
        { state := .filling
          key := k
          record := { present := false, version := 0, value := zeroValue }
          age := 0 } ∧
      ∀ v : Fin 4, v ≠ w → (copies.claimKey k)[g][v] =
        { copies[g][v] with
          age :=
            if copies[g][v].state ≠ .free ∧
                (copies[g][w].state = .free ∨ copies[g][v].age < copies[g][w].age) then
              copies[g][v].age + 1
            else copies[g][v].age }) ∧
    ((∀ v : Fin 4, copies[g][v].state = .filling) → copies.claimKey k = copies)

/-- A RESERVE obtains its record from the home store, a VALID copy or a fetch (R62, R63, R147): served at once it
writes its slot HELD at the record's version; dispatched, its entry names the slot, which stays as it was. -/
def Obligations.ReserveObtainsItsRecord : Prop :=
  ∀ (s : State) (c : CommandRecord) (n : Fin 4), s.reachesStep8 .reserve c → c.slot.toNat = n.val →
    let completion (r : TableRecord) : Completion :=
      { hostTag := c.hostTag
        outcome := if r.present = true then .ok else .absent
        key := c.key
        version := r.version
        present := r.present
        value := some r.value }
    let held (r : TableRecord) : Vector Slot 4 :=
      s.slots.set n { state := .held, key := c.key, version := r.version }
    let waiting : State := { s with engine := { headStatus := .waiting, fenceWait := false } }
    (s.ownHome c.key = true → s.publishing c.key = false →
      exec .reserve s = .next
        ({ s with slots := held (s.committed c.key) }.finishHead
          (completion (s.committed c.key))).refreshReq) ∧
    (s.ownHome c.key = true → s.publishing c.key = true → exec .reserve s = .next waiting.refreshReq) ∧
    (∀ e : CopyEntry, s.ownHome c.key = false → s.copies.entry c.key = some e → e.state = .valid →
      exec .reserve s = .next
        ({ s with
          copies := s.copies.touchKey c.key
          slots := held e.record }.finishHead (completion e.record)).refreshReq) ∧
    (∀ (m : Member) (i : Fin 8), s.ownHome c.key = false → s.copies.entry c.key = none →
      s.formation.homeOf c.key = some m → s.tracker.freeIndex = some i →
      exec .reserve s = .next ({ s with
        tracker := s.tracker.allocate i
          (freshEntry .fetch c.key m.station .reserve c (some n) none s.clock)
        copies := s.copies.claimKey c.key } : State).leaveHead.refreshReq) ∧
    (s.ownHome c.key = false → s.copies.entry c.key = none → s.tracker.freeIndex = none →
      exec .reserve s = .next waiting.refreshReq)

/-- A WRITE, SWAP, ADD or DELETE of a remote key is dispatched with what its frames will carry (R76 to R78, R148), and
waits with the pending table full; no copy is read or claimed. Of an own-home key it gets a LOCAL entry and joins
the inbound queue with the entry's tag (R20, R149), and waits without a free entry or a free inbound place, a held
place not being free. The fields of an update that its op does not use are zero, and words 1 to 7 of an ADD's value
with them: the model's choice (notes/assumptions/11.md, notes/assumptions/10.md). -/
def Obligations.UpdateIsDispatchedRemoteOrLocal : Prop :=
  (∀ (s : State) (kind : CommandKind) (c : CommandRecord) (u : Update) (m : Member), s.reachesStep8 kind c →
     updateOf c kind = some u → s.ownHome c.key = false → s.formation.homeOf c.key = some m →
     (∀ i : Fin 8, s.tracker.freeIndex = some i →
       exec kind.row s = .next ({ s with
         tracker := s.tracker.allocate i
           (freshEntry .update c.key m.station kind c none (some u) s.clock) } : State).leaveHead.refreshReq) ∧
     (s.tracker.freeIndex = none →
       exec kind.row s = .next ({ s with
         engine := { headStatus := .waiting, fenceWait := false } } : State).refreshReq)) ∧
  (∀ (s : State) (kind : CommandKind) (c : CommandRecord) (u : Update), s.reachesStep8 kind c →
     updateOf c kind = some u → s.ownHome c.key = true →
     let places : Nat := s.home.inbound.length + (if s.home.heldPlace = true then 1 else 0)
     (∀ i : Fin 8, s.tracker.freeIndex = some i → places < 8 →
       exec kind.row s = .next ({ s with
         tracker := s.tracker.allocate i
           (freshEntry .own c.key s.pins.station kind c none none s.clock)
         home := { s.home with
           inbound := s.home.inbound ++
             [{ source := .own
                request := .update u
                key := c.key
                requester := s.pins.station
                tag := s.tracker.tagAt i }] } } : State).leaveHead.refreshReq) ∧
     (s.tracker.freeIndex = none ∨ 8 ≤ places →
       exec kind.row s = .next ({ s with
         engine := { headStatus := .waiting, fenceWait := false } } : State).refreshReq))

/-- A COMMIT at step 8 by its slot's state (R68, R150): NO_RESERVATION or LOST at once, the slot EMPTY; for a HELD
slot a SWAP of the slot's key at the slot's version, remote or local, the slot becoming COMMITTING, or a wait
with the slot still HELD. A RELEASE completes OK, and its slot is EMPTY with key and version kept (R71). -/
def Obligations.CommitAndReleaseAreJudgedByTheSlot : Prop :=
  (∀ (s : State) (c : CommandRecord) (n : Fin 4), s.reachesStep8 .commit c → c.slot.toNat = n.val →
     let key : Key := s.slots[n].key
     let u : Update := { op := .swap, expected := s.slots[n].version, wordIndex := 0, value := c.value }
     let committing : Vector Slot 4 := s.slots.set n { s.slots[n] with state := .committing }
     let waiting : State := { s with engine := { headStatus := .waiting, fenceWait := false } }
     let places : Nat := s.home.inbound.length + (if s.home.heldPlace = true then 1 else 0)
     (s.slots[n].state = .empty →
       exec .commit s = .next (s.finishHead (plainRecord c key .noReservation 0)).refreshReq) ∧
     (s.slots[n].state = .lost →
       exec .commit s = .next
         ({ s with slots := s.slots.set n { s.slots[n] with state := .empty } }.finishHead
           (plainRecord c key .lost s.slots[n].version)).refreshReq) ∧
     (∀ (m : Member) (i : Fin 8), s.slots[n].state = .held → s.ownHome key = false →
       s.formation.homeOf key = some m → s.tracker.freeIndex = some i →
       exec .commit s = .next ({ s with
         slots := committing
         tracker := s.tracker.allocate i
           (freshEntry .update key m.station .commit c (some n) (some u) s.clock) } :
             State).leaveHead.refreshReq) ∧
     (∀ i : Fin 8, s.slots[n].state = .held → s.ownHome key = true → s.tracker.freeIndex = some i →
       places < 8 →
       exec .commit s = .next ({ s with
         slots := committing
         tracker := s.tracker.allocate i
           (freshEntry .own key s.pins.station .commit c (some n) none s.clock)
         home := { s.home with
           inbound := s.home.inbound ++
             [{ source := .own
                request := .update u
                key := key
                requester := s.pins.station
                tag := s.tracker.tagAt i }] } } : State).leaveHead.refreshReq) ∧
     (s.slots[n].state = .held →
       (s.tracker.freeIndex = none ∨ (s.ownHome key = true ∧ 8 ≤ places)) →
       exec .commit s = .next waiting.refreshReq)) ∧
  (∀ (s : State) (c : CommandRecord) (n : Fin 4), s.reachesStep8 .release c → c.slot.toNat = n.val →
     s.slots[n].state ≠ .committing →
     exec .release s = .next
       ({ s with slots := s.slots.set n { s.slots[n] with state := .empty } }.finishHead
         (plainRecord c s.slots[n].key .ok 0)).refreshReq)

/-- A FENCE in MEMBER state completes OK when no pending entry is in use, and otherwise waits with the FENCE wait
set (R139, R151; notes/assumptions/12.md for the other waits). -/
def Obligations.FenceWaitsForThePendingTable : Prop :=
  ∀ (s : State) (c : CommandRecord), s.atHeadOf .fence c → formError .fence c = none →
    s.formation.state = .member →
    ((∀ i : Fin 8, s.tracker.entries[i] = none) →
      exec .fence s = .next (s.finishHead (plainRecord c 0 .ok 0)).refreshReq) ∧
    ((∃ (i : Fin 8) (e : PendingEntry), s.tracker.entries[i] = some e) →
      exec .fence s = .next ({ s with
        engine := { headStatus := .waiting, fenceWait := true } } : State).refreshReq)

/-- A WATCH replaces cookie and every of the key's entry, or arms the FREE entry of the lowest index, or completes
WATCH_FULL (R159). An UNWATCH frees the key's entry and takes it out of the fired list (R160). -/
def Obligations.WatchAndUnwatchKeepTheWatchTable : Prop :=
  ∀ (s : State) (c : CommandRecord) (kind : CommandKind), WatchLaw s → s.reachesStep8 kind c →
    let done (w : WatchUnit) (o : CmdOutcome) : State :=
      ({ s with watch := w } : State).finishHead (plainRecord c c.key o 0)
    let cookie : Cookie := c.expected.setWidth 16
    let every : Bool := c.flags.getLsbD 2
    let unwatched : Prop :=
      ∀ j : Fin 32, s.watch.entries[j].state ≠ .free → s.watch.entries[j].key ≠ c.key
    (∀ i : Fin 32, s.watch.entries[i].state ≠ .free → s.watch.entries[i].key = c.key →
      (kind = .watch →
        exec .watch s = .next (done { s.watch with
          entries := s.watch.entries.set i
            { s.watch.entries[i] with cookie := cookie, every := every } } .ok).refreshReq) ∧
      (kind = .unwatch →
        exec .unwatch s = .next (done
          { entries := s.watch.entries.set i
              { state := .free
                key := 0
                cookie := 0
                every := false
                firing :=
                  { reason := .changed
                    origin := 0
                    record := { present := false, version := 0, value := zeroValue } } }
            fired := s.watch.fired.filter (· ≠ i) } .ok).refreshReq)) ∧
    (∀ i : Fin 32, unwatched → s.watch.entries[i].state = .free →
      (∀ j : Fin 32, j < i → s.watch.entries[j].state ≠ .free) → kind = .watch →
      exec .watch s = .next (done { s.watch with
        entries := s.watch.entries.set i
          { state := .armed
            key := c.key
            cookie := cookie
            every := every
            firing :=
              { reason := .changed
                origin := 0
                record := { present := false, version := 0, value := zeroValue } } } } .ok).refreshReq) ∧
    (unwatched → (∀ j : Fin 32, s.watch.entries[j].state ≠ .free) → kind = .watch →
      exec .watch s = .next (done s.watch .watchFull).refreshReq) ∧
    (unwatched → kind = .unwatch → exec .unwatch s = .next (done s.watch .ok).refreshReq)

/-- A DROP completes OK (R56, R153): a VALID copy of the key becomes FREE with its fields cleared, the older copies
of its group fall by one in age, and every other entry is as it was. -/
def Obligations.DropFreesTheCopy : Prop :=
  ∀ (s : State) (c : CommandRecord), CopyLaw s → s.reachesStep8 .drop c →
    let done (t : CopyTable) : State :=
      ({ s with copies := t } : State).finishHead (plainRecord c c.key .ok 0)
    (∀ w : Fin 4, s.copies[groupOf c.key][w].state = .valid → s.copies[groupOf c.key][w].key = c.key →
      ∃ t : CopyTable, exec .drop s = .next (done t).refreshReq ∧
        t[groupOf c.key][w] =
          { state := .free
            key := 0
            record := { present := false, version := 0, value := zeroValue }
            age := 0 } ∧
        (∀ v : Fin 4, v ≠ w → t[groupOf c.key][v] =
          { s.copies[groupOf c.key][v] with
            age :=
              if s.copies[groupOf c.key][w].age < s.copies[groupOf c.key][v].age then
                s.copies[groupOf c.key][v].age - 1
              else s.copies[groupOf c.key][v].age }) ∧
        ∀ g : Fin 64, g ≠ groupOf c.key → t[g] = s.copies[g]) ∧
    ((∀ w : Fin 4, s.copies[groupOf c.key][w].state = .valid →
        s.copies[groupOf c.key][w].key ≠ c.key) →
      exec .drop s = .next (done s.copies).refreshReq)

/-- A REFORM is handed over in any station state (R134, R154): a REFORM frame of the next epoch is queued unless one
is queued, and the command stays outstanding. -/
def Obligations.ReformIsHandedOver : Prop :=
  ∀ (s : State) (c : CommandRecord), s.atHeadOf .reform c → formError .reform c = none →
    exec .reform s = .next ({ s with
      formation := { s.formation with
        reform :=
          match s.formation.reform with
          | some epoch => some epoch
          | none => some (s.formation.epoch + 1)
        reformTags := s.formation.reformTags ++ [c.hostTag] }
      port := { s.port with commands := s.port.commands.tail }
      engine :=
        { headStatus := if s.port.commands.tail = [] then .none else .testing
          fenceWait := false } } : State).refreshReq

/-! ## The Home Engine -/

/-- How an update is judged (R6) and the new record of an accepted one (R7 to R10): VERSION_LIMIT at the top
version, VERSION_MISMATCH for a SWAP of another version, and otherwise the version plus 1 with the given value,
the old value with one word summed modulo 2^32, or absence. -/
def Obligations.UpdateIsJudgedAgainstCommittedRecord : Prop :=
  ∀ (old : TableRecord) (u : Update),
    (old.version.toNat = 4294967295 → judge old u = .error .versionLimit) ∧
    (old.version.toNat < 4294967295 →
      (u.op = .swap → u.expected ≠ old.version → judge old u = .error .versionMismatch) ∧
      ((u.op = .swap → u.expected = old.version) →
        ∃ r : TableRecord, judge old u = .ok r ∧ r.version.toNat = old.version.toNat + 1 ∧
          (u.op = .write ∨ u.op = .swap → r.present = true ∧ r.value = u.value) ∧
          (u.op = .delete → r.present = false ∧ ∀ w : Fin 8, r.value[w] = 0) ∧
          (u.op = .add → r.present = true ∧
            ∀ (x w : Fin 8), u.wordIndex.toNat = x.val →
              r.value[w] =
                (if old.present = true then old.value[w] else 0) + (if w = x then u.value[0] else 0))))

/-- Reading the home store after a write, a mark, a commit and the clearing of the marks: the written key reads as
written, every other key as before (R2, R11, R17, R38). -/
def Obligations.HomeStoreReadsWhatWasWritten : Prop :=
  ∀ (m : HomeStore) (k : Key) (j : Nat), storeWf m = true →
    (∀ r : HomeRecord,
      storeGet (storeSet m k.toNat r) j = if j = k.toNat then r else storeGet m j) ∧
    (∀ b : Bool,
      storeGet (storeMark m k b) j =
        if j = k.toNat then { storeGet m j with publishing := b } else storeGet m j) ∧
    (∀ r : TableRecord,
      storeGet (storeCommit m k r) j =
        if j = k.toNat then { committed := r, publishing := false } else storeGet m j) ∧
    storeGet (storeClearMarks m) j = { storeGet m j with publishing := false }

/-- The inbound head is a FETCH (R21, R22, R26, R27): it waits while its key is publishing or the outbound queue is
full, and is otherwise answered with the committed record, or with a REFUSE if the key is not own-home. -/
def Obligations.InboundFetchIsAnswered : Prop :=
  ∀ (s : State) (q : InboundEntry) (rest : List InboundEntry), s.ready → s.home.inbound = q :: rest →
    q.request = .fetch →
    let r : TableRecord := s.committed q.key
    let answered (f : Frame) : State :=
      { s with
        home := { s.home with
          inbound := rest
          outbound := s.home.outbound ++ [{ frame := f, attempts := 0, localOrigin := false }] }
        engine := s.engine.retest }
    (s.publishing q.key = true ∨ 8 ≤ s.home.outbound.length →
      exec .inboundFetchHandled s = .next s.refreshReq) ∧
    (s.formation.state = .member → s.publishing q.key = false → s.home.outbound.length < 8 →
      (s.ownHome q.key = true →
        exec .inboundFetchHandled s = .next (answered
          { code := 10
            sender := s.pins.station
            target := q.requester
            present := r.present
            reclose := false
            long := true
            epoch := s.formation.epoch
            tag := q.tag
            key := q.key
            aux := 0
            wordIndex := 0
            version := r.version
            value := r.value }).refreshReq) ∧
      (s.ownHome q.key = false →
        exec .inboundFetchHandled s = .next (answered
          { code := 12
            sender := s.pins.station
            target := q.requester
            present := false
            reclose := false
            long := false
            epoch := s.formation.epoch
            tag := q.tag
            key := q.key
            aux := 3
            wordIndex := 0
            version := 0
            value := zeroValue }).refreshReq))

/-- The inbound head is an update (R21, R23 to R27): it waits as a FETCH does; accepted, its PUBLISH is queued and
its key marked, the committed record staying; refused, a Span requester is sent a REFUSE with the committed
version and a LOCAL entry completes with the reason and that version; not own-home, a REFUSE SPAN_FAULT. -/
def Obligations.InboundUpdateIsDecided : Prop :=
  ∀ (s : State) (q : InboundEntry) (rest : List InboundEntry) (u : Update), s.ready →
    s.home.inbound = q :: rest → q.request = .update u →
    let old : TableRecord := s.committed q.key
    let popped : State := { s with home := { s.home with inbound := rest }, engine := s.engine.retest }
    let refused (reason : Byte) (v : Version) : State :=
      { popped with home := { popped.home with
          outbound := s.home.outbound ++
            [{ frame :=
                { code := 12
                  sender := s.pins.station
                  target := q.requester
                  present := false
                  reclose := false
                  long := false
                  epoch := s.formation.epoch
                  tag := q.tag
                  key := q.key
                  aux := reason
                  wordIndex := 0
                  version := v
                  value := zeroValue }
               attempts := 0
               localOrigin := false }] } }
    (s.publishing q.key = true ∨ 8 ≤ s.home.outbound.length →
      exec .inboundUpdateHandled s = .next s.refreshReq) ∧
    (s.formation.state = .member → s.publishing q.key = false → s.home.outbound.length < 8 →
      (s.ownHome q.key = false → exec .inboundUpdateHandled s = .next (refused 3 0).refreshReq) ∧
      (∀ r : TableRecord, s.ownHome q.key = true → judge old u = .ok r →
        exec .inboundUpdateHandled s = .next ({ popped with home := { popped.home with
          store := storeMark s.home.store q.key true
          outbound := s.home.outbound ++
            [{ frame :=
                { code := 11
                  sender := s.pins.station
                  target := q.requester
                  present := r.present
                  reclose := false
                  long := true
                  epoch := s.formation.epoch
                  tag := q.tag
                  key := q.key
                  aux :=
                    match u.op with
                    | .write => 1
                    | .swap => 2
                    | .add => 3
                    | .delete => 4
                  wordIndex := 0
                  version := r.version
                  value := r.value }
               attempts := 0
               localOrigin := q.source == .own }] } } : State).refreshReq) ∧
      (∀ reason : CmdOutcome, s.ownHome q.key = true → judge old u = .error reason →
        (reason = .versionMismatch ∨ reason = .versionLimit) ∧
        (q.source = .span →
          exec .inboundUpdateHandled s =
            .next (refused (if reason = .versionMismatch then 1 else 2) old.version).refreshReq) ∧
        (∀ (i : Fin 8) (e : PendingEntry), TrackerLaw s → q.source = .own → s.tracker.entries[i] = some e →
          e.kind = .own → e.tag = q.tag →
          exec .inboundUpdateHandled s =
            .next (popped.withEntryEnded i e reason old.version).refreshReq)))

/-- An outbound head that has failed eight times leaves the queue: a DATA or REFUSE with no other effect (R30); a
PUBLISH with its mark cleared, the committed record kept, and its origin told SPAN_FAULT with the committed
version, by a REFUSE at the tail or, for a LOCAL origin, by its entry's completion (R33). -/
def Obligations.SpentOutboundHeadLeaves : Prop :=
  ∀ (s : State) (o : OutboundEntry) (rest : List OutboundEntry), s.live = true →
    s.home.outbound = o :: rest → 8 ≤ o.attempts →
    let unmarked : State :=
      { s with
        home := { s.home with
          store := storeMark s.home.store o.frame.key false
          outbound := rest }
        engine := s.engine.retest }
    let version : Version := (s.committed o.frame.key).version
    (o.frame.code ≠ 11 →
      exec .outboundDiscard s = .next ({ s with home := { s.home with outbound := rest } } : State).refreshReq) ∧
    (o.frame.code = 11 → o.localOrigin = false →
      exec .publishDropped s = .next ({ unmarked with home := { unmarked.home with
        outbound := rest ++
          [{ frame :=
              { code := 12
                sender := s.pins.station
                target := o.frame.target
                present := false
                reclose := false
                long := false
                epoch := s.formation.epoch
                tag := o.frame.tag
                key := o.frame.key
                aux := 3
                wordIndex := 0
                version := version
                value := zeroValue }
             attempts := 0
             localOrigin := false }] } } : State).refreshReq) ∧
    (∀ (i : Fin 8) (e : PendingEntry), TrackerLaw s → o.frame.code = 11 → o.localOrigin = true →
      s.tracker.entries[i] = some e → e.kind = .own → e.tag = o.frame.tag →
      exec .publishDropped s = .next (unmarked.withEntryEnded i e .spanFault version).refreshReq)

/-! ## The Request Tracker -/

/-- An allocation takes the first free index at or after the next-index pointer, wrapping; raises its generation,
sets the tag to generation × 8 + index and moves the pointer past it; every other index stays (R77). -/
def Obligations.AllocationTakesTheFirstFreeIndex : Prop :=
  ∀ (t : RequestTracker) (e : PendingEntry),
    (t.freeIndex = none ↔ ∀ i : Fin 8, t.entries[i] ≠ none) ∧
    ∀ i : Fin 8,
      (t.freeIndex = some i ↔
        t.entries[i] = none ∧
          ∀ j : Fin 8, (j - t.nextIndex).val < (i - t.nextIndex).val → t.entries[j] ≠ none) ∧
      (t.allocate i e).nextIndex = i + 1 ∧
      (t.allocate i e).generations[i].toNat = (t.generations[i].toNat + 1) % 32 ∧
      (t.allocate i e).entries[i] =
        some { e with tag := BitVec.ofNat 8 ((t.generations[i].toNat + 1) % 32 * 8 + i.val) } ∧
      ∀ j : Fin 8, j ≠ i →
        (t.allocate i e).generations[j] = t.generations[j] ∧ (t.allocate i e).entries[j] = t.entries[j]

/-- Sixteen RTY answers end an entry HOME_BUSY (R80). Eight failed sends end it SPAN_FAULT if the eighth was voided,
and HOME_SILENT with a silence of its home if it was unanswered (R81, R91). A SENT entry completes HOME_SILENT
when its deadline comes, with a silence of its home (R89, R91); the ready time of a QUEUED entry changes nothing
but the time and the REQ line (R78). A timer's event takes place at the time the timer stands at, or later if the
station's clock is past it: the model's choice (notes/assumptions/8.md). A FETCH that ends so frees the FILLING way of
its key, cleared, with the older ages of the group closing up, and leaves any other copy (R42, R54). -/
def Obligations.LimitsAndDeadlinesEndTheEntry : Prop :=
  (∀ (s : State) (i : Fin 8) (e : PendingEntry), s.live = true → s.tracker.entries[i] = some e →
     e.state = .queued →
     (16 ≤ e.retries →
       exec (.retryLimit i) s = .next (s.withEntryEnded i e .homeBusy 0).refreshReq) ∧
     (8 ≤ e.attempts → e.lastVoided = true →
       exec (.attemptLimit i) s = .next (s.withEntryEnded i e .spanFault 0).refreshReq) ∧
     (8 ≤ e.attempts → e.lastVoided = false →
       exec (.attemptLimit i) s = .next ((s.withEntryEnded i e .homeSilent 0).silence e.home).refreshReq)) ∧
  (∀ (s : State) (i : Fin 8) (e : PendingEntry), s.atRest → s.tracker.entries[i] = some e →
     (∀ d : Time, e.state = .sent → e.deadline = some d →
       exec (.deadlineExpiry i) s =
         .next (((s.eventAt d).withEntryEnded i e .homeSilent 0).silence e.home).refreshReq) ∧
     (e.state = .queued → exec (.readyTime i) s = .next (s.eventAt e.readyTime).refreshReq)) ∧
  ∀ (copies : CopyTable) (k : Key) (g : Fin 64), (∀ i : Fin 64, GroupLaw i copies[i]) →
    g.val = k.toNat % 64 →
    (∀ w : Fin 4, copies[g][w].state = .filling → copies[g][w].key = k →
      (copies.endFilling k)[g][w] =
        { state := .free
          key := 0
          record := { present := false, version := 0, value := zeroValue }
          age := 0 } ∧
      (∀ v : Fin 4, v ≠ w → (copies.endFilling k)[g][v] =
        { copies[g][v] with
          age :=
            if copies[g][w].age < copies[g][v].age then copies[g][v].age - 1 else copies[g][v].age }) ∧
      ∀ h : Fin 64, h ≠ g → (copies.endFilling k)[h] = copies[h]) ∧
    ((∀ w : Fin 4, copies[g][w].state = .filling → copies[g][w].key ≠ k) → copies.endFilling k = copies)

/-- A silence raises an UP member's count by 1, up to 3; evidence of life returns an UP or SILENT member to UP with
count 0; of a silence and evidence that fall together, in either order, the evidence alone is left; a LOST member and
the station itself stay as they are; without a member table nothing changes; and neither report changes anything but
the member table (R109, R125, R126). That a member whose count has reached 3 is still UP until MEMBER_SILENT is done is
the model's choice (notes/assumptions/25.md). -/
def Obligations.HealthFollowsSilenceAndEvidence : Prop :=
  ∀ (s : State) (st : Station),
    (s.formation.state ≠ .member ∨ st = s.pins.station → s.silence st = s ∧ s.evidence st = s) ∧
    (s.formation.state = .member → st ≠ s.pins.station →
      s.silence st =
        { s with formation := { s.formation with
          members := s.formation.members.map fun x =>
            if x.station = st ∧ x.health = .up ∧ x.evidenceAt ≠ some s.clock then
              { x with silence := min (x.silence + 1) 3 }
            else x } } ∧
      s.evidence st =
        { s with formation := { s.formation with
          members := s.formation.members.map fun x =>
            if x.station = st ∧ x.health ≠ .lost then
              { x with silence := 0, health := .up, evidenceAt := some s.clock }
            else x } }) ∧
    (s.evidence st).silence st = s.evidence st ∧ (s.silence st).evidence st = s.evidence st

/-- A member whose count has reached 3 becomes SILENT (R126), and every block lets go of its keys (R127): what each
does is `MemberWithdrawn`. The copies of its keys are freed; the HELD slots on them are LOST, or EMPTY where an ended
entry names them; every FETCH and UPDATE entry for it completes HOME_DOWN, once each; and the ARMED watches on its keys
fire HOME_DOWN, joining the fired list in ascending order of key. The completions may join in any order (R171;
notes/assumptions/6.md). -/
def Obligations.SilentMemberIsWithdrawn : Prop :=
  ∀ (s : State) (m : Member) (order : List Nat), s.live = true → s.formation.state = .member →
    s.formation.find m.station = some m → m.health = .up → 3 ≤ m.silence →
    ∃ t, exec (.memberSilent m.station order) s = .next t ∧
      t.formation = { s.formation with
        members := s.formation.members.map fun x =>
          if x.station = m.station then { x with health := .silent } else x } ∧
      MemberWithdrawn s t m ∧
      t.home = s.home ∧ t.span = { s.span with req := t.span.req } ∧ t.clock = s.clock ∧
      t.pins = s.pins ∧ t.seen = s.seen ∧ t.pending = s.pending

/-! ## The Span Interface -/

/-- The idle timer reaches 200 µs (R103, R119): last winner 15, and an unsynced station becomes synced, queueing its
ROLL if it is in LISTEN state. The moment is that of the timer (notes/assumptions/8.md). -/
def Obligations.IdleTimeoutSetsLastWinner : Prop :=
  ∀ (s : State) (since : Time), s.atRest → s.span.idleTimer = .running since →
    exec .idleTimeout s = .next ({ s.eventAt (since + 10000) with
      span := { s.span with synced := true, lastWinner := some 15, idleTimer := .reached }
      formation :=
        if s.span.synced = false ∧ s.formation.state = .listen then
          { s.formation with roll := some s.formation.proposal }
        else s.formation } : State).refreshReq

/-- An arbitration point at a synced station in no tenure (R99, R100): the winner is the first station after the last
winner, in circular order, whose REQ line is asserted; with no line asserted the Span stays idle. The station's
own line is the one it drives, and at the close of a window the one that stood before that close: R102's words,
against some of the manual's examples (notes/assumptions/9.md). -/
def Obligations.ArbitrationPointPicksRoundRobinWinner : Prop :=
  ∀ (s : State) (u : Time) (req : StationSet) (last : Station), s.atRest → s.span.synced = true →
    s.span.tenure = .quiet → s.pins.spdSince = none → s.span.lastWinner = some last →
    let now : Time := max s.clock u
    let asserted (v : Station) : Bool :=
      if v = s.pins.station then
        match s.span.reqAtClose with
        | some (t, line) => if t = now then line else s.span.req
        | none => s.span.req
      else req.getLsbD v.toNat
    let at_ : State := s.eventAt u
    ((∀ v, asserted v = false) →
      exec (.arbitrationPoint u req) s =
        .next ({ at_ with span := { s.span with reqAtClose := none } } : State).refreshReq) ∧
    ∀ w : Station, asserted w = true →
      (∀ v : Station, asserted v = true → (w - last - 1).toNat ≤ (v - last - 1).toNat) →
      exec (.arbitrationPoint u req) s = .next ({ at_ with
        span := { s.span with
          reqAtClose := none
          tenure := .won w now (if w = s.pins.station then at_.chooseFrame else none)
          afterEmpty := false } } : State).refreshReq

/-- The frame that a winning station sends (R78, R110): REFORM before ROLL before CLOSE, then the outbound head, then
the QUEUED request whose ready time came earliest, the lower index of two that came together. -/
def Obligations.WinnerSendsTheFirstCandidate : Prop :=
  ∀ s : State,
    (∀ e : Epoch, s.formation.reform = some e →
      s.chooseFrame = some
        { source := .formation .reform
          frame := { Frame.blank .reform s.pins.station e with code := 3 } }) ∧
    (∀ p : Epoch, s.formation.reform = none → s.formation.roll = some p →
      s.chooseFrame = some
        { source := .formation .roll
          frame := { Frame.blank .roll s.pins.station p with code := 1, aux := p } }) ∧
    (∀ c : CloseFrame, s.formation.reform = none → s.formation.roll = none → s.formation.close = some c →
      s.chooseFrame = some
        { source := .formation .close
          frame :=
            { Frame.blank .close s.pins.station c.epoch with
              code := 2, reclose := c.reclose, key := c.bitmap } }) ∧
    (s.formation.reform = none → s.formation.roll = none → s.formation.close = none →
      (∀ o rest, s.home.outbound = o :: rest → o.attempts < 8 →
        s.chooseFrame = some { source := .outbound, frame := o.frame }) ∧
      (s.home.outbound = [] →
        let ready (i : Fin 8) (e : PendingEntry) : Prop :=
          s.tracker.entries[i] = some e ∧ e.state = .queued ∧ e.readyTime ≤ s.clock ∧ e.attempts < 8 ∧
            e.retries < 16
        (s.chooseFrame = none ↔ ∀ i e, ¬ ready i e) ∧
        ∀ i e, ready i e →
          (∀ j e', ready j e' → e.readyTime < e'.readyTime ∨ (e.readyTime = e'.readyTime ∧ i ≤ j)) →
          s.chooseFrame = some
            { source := .request i e.tag
              frame :=
                match e.update with
                | none =>
                  { Frame.blank .fetch s.pins.station s.formation.epoch with
                    code := 8, target := e.home, tag := e.tag, key := e.key }
                | some u =>
                  { Frame.blank .update s.pins.station s.formation.epoch with
                    code := 9
                    target := e.home
                    tag := e.tag
                    key := e.key
                    long := u.op != .delete
                    aux :=
                      match u.op with
                      | .write => 1
                      | .swap => 2
                      | .add => 3
                      | .delete => 4
                    wordIndex := u.wordIndex
                    version := u.expected
                    value := u.value } }))

/-- A frame begins on a quiet SPD± (R98, R99, R103): the winner's own 0.2 µs after its arbitration point; another
winner's within 2 µs of it, whether the station hears its start pattern or misses it; a later one leaves the tenure
empty and belongs to none, as does one that follows an empty tenure; a station that computed no winner hears every
other frame. SPD± driven holds the idle timer. An empty tenure that ends makes its would-be winner the last winner.
How a late start ends the tenure, and which frames a station without a winner hears, is the model's reading
(notes/assumptions/17.md). That the winner begins the frame it chose at the point, also where the entry of that frame
was released in the 0.2 µs between, is the model's choice (notes/assumptions/26.md). SPD± that begins to be driven inside
an open response window is driven, holds the idle timer, and leaves the window open: that is the model's choice
(notes/assumptions/29.md). -/
def Obligations.FrameStartsOrTenureStaysEmpty : Prop :=
  ∀ (s : State) (start : SpdStart), s.atRest → s.pins.spdSince = none →
    let driven (now : Time) (span : SpanInterface) : State :=
      { s.eventAt now with
        pins := { s.pins with spdSince := some (max s.clock now) }
        span := { span with idleTimer := .held } }
    (∀ w since own, s.span.tenure = .won w since (some own) →
      exec (.frameStart start) s = .next
        (driven (since + 10) { s.span with tenure := .frame (some w) (some own) }).refreshReq) ∧
    (∀ w since, s.span.tenure = .won w since none →
      (max s.clock start.time ≤ since + 100 →
        exec (.frameStart start) s = .next
          (driven start.time { s.span with
            tenure := if start.heard = true then .frame (some w) none else .won w since none }).refreshReq) ∧
      (since + 100 < max s.clock start.time →
        exec (.frameStart start) s = .next
          (driven start.time { s.span with
            tenure := .quiet, lastWinner := some w, afterEmpty := true }).refreshReq) ∧
      exec .emptyTenureEnd s = .next ({ s.eventAt (since + 100) with
        span := { s.span with tenure := .quiet, lastWinner := some w, afterEmpty := true } } :
          State).refreshReq) ∧
    (s.span.tenure = .quiet →
      exec (.frameStart start) s = .next
        (driven start.time { s.span with
          tenure :=
            if start.heard = true ∧ ¬ (s.span.synced = true ∧ s.span.afterEmpty = true) then .frame none none
            else .quiet }).refreshReq) ∧
    ((∃ w own heard, s.span.tenure = .window w own heard) →
      exec (.frameStart start) s = .next
        (driven start.time { s.span with intruder := .driven start.heard }).refreshReq)

/-- The check errors of a frame that a station heard from its start (R105). -/
def Obligations.CheckErrorsAreTheTableOfR105 : Prop :=
  ∀ (winner : Option Station) (own : Option OwnFrame) (bs : List Byte),
    let f : Frame := Frame.ofBytes bs
    let long : Prop := f.code = 10 ∨ f.code = 11 ∨ (f.code = 9 ∧ f.aux ≠ 4)
    checkError winner own bs = true ↔
      (bs.length ≠ 14 ∧ bs.length ≠ 46) ∨
      crc16 (bs.take (bs.length - 2)) ≠ le16 bs (bs.length - 2) ∨
      f.code ∉ [1, 2, 3, 8, 9, 10, 11, 12] ∨
      ¬ (f.long = true ↔ long) ∨
      ¬ (bs.length = 46 ↔ long) ∨
      (f.code ∈ [8, 9, 10, 11, 12] ∧ 4096 ≤ f.key.toNat) ∨
      (f.code ∈ [9, 11] ∧ f.aux ∉ [1, 2, 3, 4]) ∨
      (f.code = 9 ∧ f.aux = 3 ∧ 8 ≤ f.wordIndex.toNat) ∨
      (f.code = 12 ∧ f.aux ∉ [1, 2, 3]) ∨
      (∃ w, winner = some w ∧ f.sender ≠ w) ∨
      ∃ o, own = some o ∧ o.frame.bytes ≠ bs

/-- A frame ends (R18, R98, R104): SPD± is released after the start pattern and the bytes, the window opens, and the
station drives CHK# on a check error; otherwise the target in MEMBER state of the frame's epoch drives ACK# for
an answer, and for a request ACK# with a place held while the inbound queue holds fewer than 8, else RTY#. The
sender answers no frame of its own, and a station that ignored the frame drives nothing in its window (R98, R103). That
the line is driven from the very start of the window, where R104 allows half a microsecond, is the model's choice
(notes/assumptions/16.md), and so is the moment at which a frame ends whose start the station was not told
(notes/assumptions/17.md), and that SPD± released inside an open window leaves that window open, and its frame for the
close of the window (notes/assumptions/29.md). -/
def Obligations.FrameEndIsAnsweredInItsWindow : Prop :=
  (∀ (s : State) (bs : List Byte) (since : Time) (winner : Option Station) (own : Option OwnFrame), s.atRest →
     SpanLaw s → s.pins.spdSince = some since → s.span.tenure = .frame winner own → s.home.heldPlace = false →
     let now : Time := max s.clock (since + (4 + 4 * bs.length))
     let f : Frame := Frame.ofBytes bs
     let answers : Bool :=
       !checkError winner own bs && own.isNone && s.formation.state == .member &&
         f.epoch == s.formation.epoch && f.target == s.pins.station
     let request : Bool := answers && (f.code == 8 || f.code == 9)
     let answer : Bool := answers && (f.code == 10 || f.code == 12)
     let place : Bool := decide (s.home.inbound.length < 8)
     exec (.frameHeard bs) s = .next ({ s.eventAt now with
       pins := { s.pins with spdSince := none, spdReleased := now }
       span := { s.span with
         tenure := .window winner own (some bs)
         ack := answer || request && place
         rty := request && !place
         chk := checkError winner own bs }
       home := { s.home with heldPlace := request && place } } : State).refreshReq) ∧
  ∀ (s : State) (bs : List Byte), s.atRest →
    let ignored (begun : Time) (winner : Option Station) : State :=
      let now : Time := max s.clock (begun + (4 + 4 * bs.length))
      { s.eventAt now with
        pins := { s.pins with spdSince := none, spdReleased := now }
        span := { s.span with idleTimer := .held, tenure := .window winner none none } }
    (∀ w point, s.span.tenure = .won w point none →
      (∀ begun, s.pins.spdSince = some begun →
        exec (.frameHeard bs) s = .next (ignored begun (some w)).refreshReq) ∧
      (s.pins.spdSince = none →
        exec (.frameHeard bs) s = .next (ignored (point + 10) (some w)).refreshReq)) ∧
    (s.span.tenure = .quiet →
      (∀ begun, s.pins.spdSince = some begun →
        exec (.frameHeard bs) s = .next (ignored begun none).refreshReq) ∧
      (s.pins.spdSince = none → exec (.frameHeard bs) s = .next (ignored s.clock none).refreshReq)) ∧
    ((∃ w own heard, s.span.tenure = .window w own heard) →
      let now : Time := max s.clock (s.pins.spdSince.getD s.clock + (4 + 4 * bs.length))
      exec (.frameHeard bs) s = .next ({ s.eventAt now with
        pins := { s.pins with spdSince := none }
        span := { s.span with
          intruder := .released now (if s.span.intruder = .driven true then some bs else none) } } :
            State).refreshReq)

/-- The bytes of a frame (R113), written out: the header of 12 bytes, the value of a long frame little-endian, word by
word, and the CRC-16 of all of them, low byte first. The CRC register is preset to all ones; each byte is combined into
its low eight bits, and eight shifts to the right follow, each combined with A001 where the bit shifted out was 1. A
frame has 14 bytes, or 46 with the long flag; its bytes are intact, and reading them gives the frame back, field by
field. -/
def Obligations.FrameBytesReadBack : Prop :=
  ∀ f : Frame, (f.long = false → f.value = zeroValue) →
    let two (x : BitVec 16) : List Byte := [x.setWidth 8, (x >>> 8).setWidth 8]
    let four (x : BitVec 32) : List Byte :=
      [x.setWidth 8, (x >>> 8).setWidth 8, (x >>> 16).setWidth 8, (x >>> 24).setWidth 8]
    let flags : Byte :=
      (if f.present = true then 1 else 0) + (if f.reclose = true then 2 else 0) +
        (if f.long = true then 4 else 0)
    let covered : List Byte :=
      [f.code.setWidth 8 <<< 4 ||| f.sender.setWidth 8, f.target.setWidth 8 <<< 4 ||| flags, f.epoch, f.tag] ++
        two f.key ++ [f.aux, f.wordIndex] ++ four f.version ++
        (if f.long = true then (List.finRange 8).flatMap fun w => four f.value[w] else [])
    let shift (c : BitVec 16) : BitVec 16 := if c.getLsbD 0 = true then c >>> 1 ^^^ 0xA001 else c >>> 1
    let crc : BitVec 16 := covered.foldl
      (fun c b => shift (shift (shift (shift (shift (shift (shift (shift (c ^^^ b.setWidth 16))))))))) 0xFFFF
    f.bytes = covered ++ two crc ∧ f.bytes.length = (if f.long = true then 46 else 14) ∧
      frameIntact f.bytes = true ∧ Frame.ofBytes f.bytes = f

/-- The close timer queues a formation CLOSE with the roll list as bitmap and its highest proposal as epoch (R122);
the re-close timer a re-close with the station's own bitmap and epoch (R129), whose bits are the members'. A CLOSE
taken by a MEMBER that does not exclude it (R129, R131), another station's or its own: one that agrees with its own
epoch and bitmap, or a re-close of another epoch with its own bit set, stops the re-close timer and withdraws a queued
re-close; a formation CLOSE that differs starts the timer again at 100 µs + 300 µs for each UP member with a lower
number than this station that is not the sender, unless a re-close is queued. The sender is alive (R109). A timer's
event takes place at the time the timer stands at, or later if the station's clock is past it: the model's choice
(notes/assumptions/8.md). -/
def Obligations.FormationTimersQueueTheirClose : Prop :=
  (∀ (s : State) (d : Time), s.atRest →
     (s.formation.closeTimer = some d →
       exec .closeTimerExpiry s = .next ({ s.eventAt d with formation := { s.formation with
         closeTimer := none
         close := some
           { reclose := false, bitmap := s.formation.rollList, epoch := s.formation.highest } } } :
             State).refreshReq) ∧
     (s.formation.recloseTimer = some d → s.formation.state = .member →
       ∃ bitmap : StationSet,
         (∀ n : Station, bitmap.getLsbD n.toNat = true ↔ ∃ m ∈ s.formation.members, m.station = n) ∧
         exec .recloseTimerExpiry s = .next ({ s.eventAt d with formation := { s.formation with
           recloseTimer := none
           close := some { reclose := true, bitmap := bitmap, epoch := s.formation.epoch } } } :
             State).refreshReq)) ∧
  ∀ (s : State) (winner : Option Station) (own : Option OwnFrame) (f : Frame) (ack rty : Bool)
      (order : List Nat),
    s.closingFrame winner own f → s.span.synced = true → s.formation.state = .member → f.code = 2 →
    f.long = false →
    let now : Time := max s.clock (s.pins.spdReleased + 50)
    let agrees : Prop := f.epoch = s.formation.epoch ∧
      ∀ n : Station, f.key.getLsbD n.toNat = true ↔ ∃ m ∈ s.formation.members, m.station = n
    let lower : Nat :=
      (s.formation.members.filter fun m =>
        m.health == .up && decide (m.station.toNat < s.pins.station.toNat) && m.station != f.sender).length
    let after (close : Option CloseFrame) (timer : Option Time) : State :=
      { s.windowClosed (some f.sender) with formation := { s.aliveAtClose f.sender with
          close := close
          recloseTimer := timer } }
    ((own = none ∨ own = some { source := .formation .close, frame := f }) →
      agrees ∨ (f.reclose = true ∧ f.epoch ≠ s.formation.epoch ∧
        f.key.getLsbD s.pins.station.toNat = true) →
      exec (.responseWindowClose ack rty false order) s = .next (after none none).refreshReq) ∧
    (own = none → f.reclose = false → ¬ agrees →
      (s.formation.close = none →
        exec (.responseWindowClose ack rty false order) s =
          .next (after none (some (now + 5000 + 15000 * lower))).refreshReq) ∧
      (s.formation.close ≠ none →
        exec (.responseWindowClose ack rty false order) s =
          .next (after s.formation.close s.formation.recloseTimer).refreshReq))

/-! ## The Watch Unit's notices -/

/-- A notice is delivered when free unreserved space and a fired entry exist (R164 to R166): the head of the fired
list leaves it, its notice joins the completion queue, and the entry is re-armed or freed. Otherwise nothing
changes. The notice stands ahead of at most `ahead` of the records that other blocks placed at this event, an
order that R171 leaves open (notes/assumptions/6.md). -/
def Obligations.NoticeIsDeliveredIntoFreeSpace : Prop :=
  ∀ (s : State) (ahead : Nat), s.ready →
    (∀ (i : Fin 32) (rest : List (Fin 32)), s.watch.fired = i :: rest →
      s.port.completions.length + s.port.outstanding < 32 →
      let w : WatchEntry := s.watch.entries[i]
      let cleared : Firing :=
        { reason := .changed
          origin := 0
          record := { present := false, version := 0, value := zeroValue } }
      exec (.noticeDelivery ahead) s = .next ({ s with
        port := { s.port with
          completions := s.port.completions.insertIdx (s.port.completions.length - min ahead s.port.fresh)
            (.notice
              { reason := w.firing.reason
                key := w.key
                cookie := w.cookie
                origin := w.firing.origin
                record := w.firing.record })
          fresh := min ahead s.port.fresh }
        watch :=
          { entries := s.watch.entries.set i
              (if w.every = true then { w with state := .armed, firing := cleared }
              else { state := .free, key := 0, cookie := 0, every := false, firing := cleared })
            fired := rest } } : State).refreshReq) ∧
    (s.watch.fired = [] ∨ 32 ≤ s.port.completions.length + s.port.outstanding →
      exec (.noticeDelivery ahead) s = .next s.refreshReq)

/-! ## The close of the response window -/

/-- A frame that is voided, not intact, or addressed and not acknowledged is taken by no block (R19, R106, R107): the
close ends the window, sets the last winner, releases a held place, and changes nothing else but that an intact frame
syncs an unsynced station (R101, R103). The same holds of the station's own ROLL, CLOSE or REFORM, which stays a
candidate (R112). A window whose frame the station did not hear, or that began before it came out of reset, ends with
the idle timer running and takes nothing; where no window is open nothing changes. An EXCLUDED station notes the epoch
of an intact frame whose window closes without CHK# as the heard epoch, unless it takes it, and nothing else (R133).
At the close with CHK#, or of a frame that is not intact, it notes no epoch (R107). A MEMBER takes no PUBLISH, FETCH or
UPDATE of another epoch, and of its own epoch it takes from a FETCH or UPDATE that another station acknowledged the
sign of life of its sender and nothing else (R107 to R109). That a tenure's window without a frame heard sets the
winner computed, and one of no tenure leaves the last winner, is the model's reading (notes/assumptions/17.md). The last clause is
the model's choice (notes/assumptions/29.md): the close of a window in which SPD± was driven is that of the same window
without it, but the idle timer stands at its start, a frame still on SPD± is followed if its start was heard, and one that
was released in the window has its own window now, judged if its start was heard. -/
def Obligations.UntakenFrameTouchesNoBlock : Prop :=
  (∀ (s : State) (winner : Option Station) (own : Option OwnFrame) (bs : List Byte) (ack rty chk : Bool)
       (order : List Nat),
     s.atRest → s.span.intruder = .absent → s.span.tenure = .window winner own (some bs) →
     (s.formation.state = .excluded → chk = true ∨ s.span.chk = true ∨ frameIntact bs = false) →
     (own = none ∨ ∃ (o : OwnFrame) (kind : FrameKind),
       own = some o ∧ o.source = .formation kind ∧ o.frame.code ∈ [1, 2, 3]) →
     (chk = true ∨ s.span.chk = true ∨ frameIntact bs = false ∨
       ((Frame.ofBytes bs).code ∈ [8, 9, 10, 12] ∧ ack = false ∧ s.span.ack = false)) →
     let intact : Bool := frameIntact bs
     let closed : State :=
       s.windowClosed
         (if intact = true then some (Frame.ofBytes bs).sender
         else if s.span.synced = true ∧ winner ≠ none then winner
         else s.span.lastWinner)
     exec (.responseWindowClose ack rty chk order) s = .next ({ closed with
       span := { closed.span with synced := s.span.synced || intact }
       formation :=
         if intact = true ∧ s.span.synced = false ∧ s.formation.state = .listen then
           { s.formation with roll := some s.formation.proposal }
         else s.formation
       home := { s.home with heldPlace := false }
       engine := if s.home.heldPlace = true then s.engine.retest else s.engine } : State).refreshReq) ∧
  (∀ (s : State) (winner : Option Station) (own : Option OwnFrame) (ack rty chk : Bool) (order : List Nat),
     s.atRest → s.span.intruder = .absent → s.span.tenure = .window winner own none →
     exec (.responseWindowClose ack rty chk order) s = .next
       (s.windowClosed
         (if s.span.synced = true ∧ winner ≠ none then winner else s.span.lastWinner)).refreshReq) ∧
  (∀ (s : State) (ack rty chk : Bool) (order : List Nat), s.atRest → s.span.tenure = .quiet →
     let open_ : Prop := s.pins.spdSince = none ∧
       (s.span.idleTimer = .held ∨ s.clock < s.pins.spdReleased + 50)
     (open_ → exec (.responseWindowClose ack rty chk order) s =
       .next (s.windowClosed s.span.lastWinner).refreshReq) ∧
     (¬ open_ → exec (.responseWindowClose ack rty chk order) s =
       .next (s.eventAt s.clock).refreshReq)) ∧
  (∀ (s : State) (winner : Option Station) (bs : List Byte) (ack rty : Bool) (order : List Nat),
     s.atRest → s.span.synced = true → s.formation.state = .excluded →
     s.span.tenure = .window winner none (some bs) → s.span.intruder = .absent → frameIntact bs = true →
     s.span.chk = false → s.home.heldPlace = false →
     ((Frame.ofBytes bs).code ≠ 3 ∨ (Frame.ofBytes bs).epoch = s.formation.epoch) →
     exec (.responseWindowClose ack rty false order) s =
       .next ({ s.windowClosed (some (Frame.ofBytes bs).sender) with
         formation := { s.formation with epoch := (Frame.ofBytes bs).epoch } } : State).refreshReq) ∧
  (∀ (s : State) (winner : Option Station) (f : Frame) (ack rty : Bool) (order : List Nat),
     s.closingWindow winner f → s.span.synced = true → s.formation.state = .member →
     (f.code = 11 ∧ f.epoch ≠ s.formation.epoch ∨
       f.code ∈ [8, 9] ∧ (ack = true ∨ s.span.ack = true) ∧
         (f.epoch ≠ s.formation.epoch ∨ f.target ≠ s.pins.station)) →
     exec (.responseWindowClose ack rty false order) s =
       .next ({ s.windowClosed (some f.sender) with
         formation :=
           if f.epoch = s.formation.epoch then s.aliveAtClose f.sender else s.formation } :
             State).refreshReq) ∧
  ∀ (s : State) (winner : Option Station) (own : Option OwnFrame) (heard : Option (List Byte))
      (ack rty chk : Bool) (order : List Nat),
    s.atRest → s.span.tenure = .window winner own heard →
    let closes (intruder : Intrusion) : Host.Outcome State Fault Refusal :=
      exec (.responseWindowClose ack rty chk order) { s with span := { s.span with intruder := intruder } }
    ∃ t, closes .absent = .next t ∧
      (∀ started : Bool, closes (.driven started) = .next { t with
        span := { t.span with
          idleTimer := .held
          tenure := if started = true then .frame none none else .quiet } }) ∧
      (∀ since : Time, closes (.released since none) = .next { t with
        pins := { t.pins with spdReleased := since }
        span := { t.span with idleTimer := .held, tenure := .window none none none } }) ∧
      ∀ (since : Time) (bs : List Byte),
        let f : Frame := Frame.ofBytes bs
        let answers : Bool :=
          !checkError none none bs && t.formation.state == .member && f.epoch == t.formation.epoch &&
            f.target == t.pins.station
        let request : Bool := answers && (f.code == 8 || f.code == 9)
        let answer : Bool := answers && (f.code == 10 || f.code == 12)
        let place : Bool := decide (t.home.inbound.length < 8)
        closes (.released since (some bs)) = .next { t with
          pins := { t.pins with spdReleased := since }
          span := { t.span with
            idleTimer := .held
            tenure := .window none none (some bs)
            ack := answer || request && place
            rty := request && !place
            chk := checkError none none bs }
          home := { t.home with heldPlace := t.home.heldPlace || request && place } }

/-- A taken FETCH or UPDATE for which this station held a place joins the tail of the inbound queue with its fields,
and its sender is alive (R15, R19, R109). That a field which the op does not use is held as zero, and words 1 to 7 of
an ADD with them, is the model's choice (notes/assumptions/11.md, notes/assumptions/10.md). -/
def Obligations.TakenRequestJoinsTheInboundQueue : Prop :=
  ∀ (s : State) (winner : Station) (f : Frame) (request : HomeRequest) (ack rty : Bool) (order : List Nat),
    s.atRest → s.span.intruder = .absent → s.span.synced = true → s.formation.state = .member →
    s.span.tenure = .window (some winner) none (some f.bytes) → (f.long = false → f.value = zeroValue) →
    s.home.heldPlace = true → s.span.chk = false → (ack = true ∨ s.span.ack = true) →
    f.epoch = s.formation.epoch →
    ((f.code = 8 ∧ request = .fetch) ∨
      (f.code = 9 ∧ ∃ op : Op,
        f.aux =
          (match op with
          | .write => 1
          | .swap => 2
          | .add => 3
          | .delete => 4) ∧
        request = .update
          { op := op
            expected := if op = .swap then f.version else 0
            wordIndex := if op = .add then f.wordIndex else 0
            value :=
              match op with
              | .write => f.value
              | .swap => f.value
              | .add => zeroValue.set 0 f.value[0]
              | .delete => zeroValue })) →
    exec (.responseWindowClose ack rty false order) s = .next ({ s.windowClosed (some f.sender) with
      home := { s.home with
        heldPlace := false
        inbound := s.home.inbound ++
          [{ source := .span, request := request, key := f.key, requester := f.sender, tag := f.tag }] }
      formation := s.aliveAtClose f.sender } : State).refreshReq

/-- The send of a request at the close of its window (R79 to R81, R104, R111): taken, the entry is SENT with a deadline of
1 ms; answered RTY, one retry more and ready after 20 µs; voided, by any station's CHK# or by its own where it heard
another frame than it sent, or unanswered, one attempt more and ready at once. The outcome goes to no entry where the
entry was released while its frame was on the Span (R82, R111). An ACK# or RTY# shows that the target is alive in every
case (R109). Nothing else changes. -/
def Obligations.RequestSendOutcomeIsCounted : Prop :=
  ∀ (s : State) (winner : Station) (own : OwnFrame) (i : Fin 8) (tag : Tag) (bs : List Byte)
      (ack rty chk : Bool) (order : List Nat),
    s.atRest → s.span.intruder = .absent → s.span.synced = true → s.formation.state = .member →
    s.home.heldPlace = false → own.source = .request i tag → own.frame.code ∈ [8, 9] → own.frame.sender = s.pins.station →
    s.span.tenure = .window (some winner) (some own) (some bs) → s.span.ack = false → s.span.rty = false →
    let now : Time := max s.clock (s.pins.spdReleased + 50)
    let voided : Prop := chk = true ∨ s.span.chk = true ∨ frameIntact bs = false
    let sent : Prop := ¬ voided ∧ bs = own.frame.bytes ∧ (own.frame.long = false → own.frame.value = zeroValue)
    let closed (tracker : RequestTracker) : State :=
      { s.windowClosed (some (if frameIntact bs = true then (Frame.ofBytes bs).sender else winner)) with
        tracker := tracker
        formation := if ack = true ∨ rty = true then s.aliveAtClose own.frame.target else s.formation }
    let becomes (e : PendingEntry) : RequestTracker :=
      { s.tracker with entries := s.tracker.entries.set i (some e) }
    (∀ e : PendingEntry, s.tracker.entries[i] = some e → e.tag = tag → e.state = .queued →
      (voided → exec (.responseWindowClose ack rty chk order) s = .next
        (closed (becomes
          { e with attempts := e.attempts + 1, readyTime := now, lastVoided := true })).refreshReq) ∧
      (sent → exec (.responseWindowClose ack rty chk order) s = .next
        (closed (becomes
          (if ack = true then { e with state := .sent, deadline := some (now + 50000) }
          else if rty = true then { e with retries := e.retries + 1, readyTime := now + 1000 }
          else { e with attempts := e.attempts + 1, readyTime := now, lastVoided := false }))).refreshReq)) ∧
    ((∀ e : PendingEntry, s.tracker.entries[i] = some e → e.tag = tag → e.state ≠ .queued) → voided ∨ sent →
      exec (.responseWindowClose ack rty chk order) s = .next (closed s.tracker).refreshReq)

/-- A taken DATA that matches a FETCH entry completes it (R49, R50, R83, R84): with the record of the DATA, or with
that of a copy under refresh at a higher version; the copy takes the DATA's record otherwise, a RESERVE's slot
becomes HELD, and the entry is released. A taken REFUSE that matches an entry ends it with its reason and version: a
FETCH frees its FILLING copy, and a slot becomes EMPTY (R54, R64, R69, R83, R85). A DATA or REFUSE that matches no
entry, or is addressed to another station, changes nothing but its sender's signs of life (R83, R109). A copy that
takes a record becomes VALID with it and keeps its key and age (R49, R52). -/
def Obligations.TakenDataCompletesItsFetch : Prop :=
  (∀ (s : State) (winner : Station) (f : Frame) (i : Fin 8) (e : PendingEntry) (ack rty : Bool)
       (order : List Nat),
     s.closingWindow (some winner) f → TrackerLaw s → s.span.synced = true → s.formation.state = .member →
     f.code = 10 → f.long = true → f.epoch = s.formation.epoch → f.target = s.pins.station →
     (ack = true ∨ s.span.ack = true) →
     s.tracker.entries[i] = some e → e.kind = .fetch → e.state = .sent → e.tag = f.tag → e.key = f.key →
     e.home = f.sender →
     let data : TableRecord := { present := f.present, version := f.version, value := f.value }
     let newer : Option TableRecord :=
       match s.copies.entry f.key with
       | some x => if x.state = .valid ∧ f.version < x.record.version then some x.record else none
       | none => none
     let r : TableRecord := newer.getD data
     ∃ t, exec (.responseWindowClose ack rty false order) s = .next t ∧
       t.tracker = { s.tracker with entries := s.tracker.entries.set i none } ∧
       t.copies = (if newer = none then s.copies.putRecord f.key data else s.copies) ∧
       t.slots =
         (match e.slot with
         | some n => s.slots.set n { state := .held, key := e.key, version := r.version }
         | none => s.slots) ∧
       t.port = { s.port with
         completions := s.port.completions ++
           [.completion
             { hostTag := e.hostTag
               outcome := if r.present = true then .ok else .absent
               key := e.key
               version := r.version
               present := r.present
               value := some r.value }]
         outstanding := s.port.outstanding - 1
         fresh := 1 } ∧
       t.engine = s.engine.retest ∧ t.home = s.home ∧ t.watch = s.watch ∧
       t.span.lastWinner = some f.sender ∧
       t.formation = s.aliveAtClose f.sender) ∧
  (∀ (s : State) (winner : Station) (f : Frame) (i : Fin 8) (e : PendingEntry) (outcome : CmdOutcome)
       (ack rty : Bool) (order : List Nat),
     s.closingWindow (some winner) f → TrackerLaw s → s.span.synced = true → s.formation.state = .member →
     f.code = 12 → f.epoch = s.formation.epoch → f.target = s.pins.station →
     (ack = true ∨ s.span.ack = true) →
     (f.aux = 1 ∧ outcome = .versionMismatch ∨ f.aux = 2 ∧ outcome = .versionLimit ∨
       f.aux = 3 ∧ outcome = .spanFault) →
     s.tracker.entries[i] = some e → e.state = .sent → e.tag = f.tag → e.key = f.key → e.home = f.sender →
     (e.kind = .update ∨ e.kind = .fetch ∧ outcome = .spanFault) →
     exec (.responseWindowClose ack rty false order) s =
       .next (({ s.windowClosed (some f.sender) with formation := s.aliveAtClose f.sender } :
         State).withEntryEnded i e outcome f.version).refreshReq) ∧
  (∀ (s : State) (winner : Station) (f : Frame) (ack rty : Bool) (order : List Nat),
     s.closingWindow (some winner) f → s.span.synced = true → s.formation.state = .member →
     f.code = 10 ∨ f.code = 12 → (ack = true ∨ s.span.ack = true) →
     (f.epoch ≠ s.formation.epoch ∨ f.target ≠ s.pins.station ∨
       ∀ (i : Fin 8) (e : PendingEntry), s.tracker.entries[i] = some e → e.state = .sent → e.tag = f.tag →
         e.key = f.key → e.home = f.sender →
         ¬ (e.kind = .fetch ∧ (f.code = 10 ∨ f.aux = 3) ∨
           e.kind = .update ∧ f.code = 12 ∧ f.aux ∈ [1, 2, 3])) →
     exec (.responseWindowClose ack rty false order) s =
       .next ({ s.windowClosed (some f.sender) with
         formation :=
           if f.epoch = s.formation.epoch then s.aliveAtClose f.sender else s.formation } :
             State).refreshReq) ∧
  ∀ (copies : CopyTable) (k : Key) (r : TableRecord) (g : Fin 64), (∀ i : Fin 64, GroupLaw i copies[i]) →
    g.val = k.toNat % 64 →
    (∀ w : Fin 4, copies[g][w].state ≠ .free → copies[g][w].key = k →
      (copies.putRecord k r)[g][w] = { copies[g][w] with state := .valid, record := r } ∧
      (∀ v : Fin 4, v ≠ w → (copies.putRecord k r)[g][v] = copies[g][v]) ∧
      ∀ h : Fin 64, h ≠ g → (copies.putRecord k r)[h] = copies[h]) ∧
    ((∀ w : Fin 4, copies[g][w].state ≠ .free → copies[g][w].key ≠ k) → copies.putRecord k r = copies)

/-- A PUBLISH of another station that a MEMBER takes reaches every block but the Home Engine: what each does is
`PublishTaken` (R51 to R53, R65, R66, R69, R83, R86 to R88, R140, R161). A HELD slot on the key is LOST; a copy moves
to a higher version, or is filled, with its age kept; the watch of the key fires CHANGED; and the entry that the
PUBLISH ends, if there is one, completes: the FETCH of a FILLING copy with the published record, a RESERVE's slot
becoming HELD, or the origin's own UPDATE or LOCAL entry OK, a COMMIT's slot becoming EMPTY. Its sender is alive
(R109). -/
def Obligations.TakenPublishReachesEveryBlock : Prop :=
  ∀ (s : State) (winner : Station) (f : Frame) (ack rty : Bool) (order : List Nat),
    s.closingWindow (some winner) f → CopyLaw s → WatchLaw s → TrackerLaw s → s.span.synced = true →
    s.formation.state = .member → f.code = 11 → f.long = true → f.epoch = s.formation.epoch →
    ∃ t, exec (.responseWindowClose ack rty false order) s = .next t ∧ PublishTaken s t f ∧
      t.home = s.home ∧ t.span.lastWinner = some f.sender ∧
      t.formation = s.aliveAtClose f.sender

/-- A frame of this station's outbound queue at the close of its window. A PUBLISH that is taken commits (R11, R31): the
home store reads the published record with the mark clear, every other key as before, the frame leaves the outbound
queue, and the blocks behind the Home Engine take it as any other's (`PublishTaken`). Voided, it counts one attempt and
stays at the head, and no block sees it (R32). A DATA or REFUSE that is taken leaves the queue; voided, not intact, or
without an ACK#, an RTY# alone included, it counts one attempt and stays at the head (R29, R30). An ACK# or RTY# shows
that its target is alive, also where the frame was voided (R109). -/
def Obligations.OwnPublishCommitsOrIsResent : Prop :=
  (∀ (s : State) (winner : Station) (own : OwnFrame) (o : OutboundEntry) (rest : List OutboundEntry)
       (ack rty : Bool) (order : List Nat),
     s.atRest → s.span.intruder = .absent → HomeLaw s → s.span.synced = true →
     s.formation.state = .member → s.home.heldPlace = false → s.span.chk = false → s.home.outbound = o :: rest → own.source = .outbound → own.frame = o.frame →
     o.frame.code = 11 → o.frame.long = true → o.frame.epoch = s.formation.epoch →
     s.span.tenure = .window (some winner) (some own) (some own.frame.bytes) →
     ∃ t, exec (.responseWindowClose ack rty false order) s = .next t ∧
       t.committed o.frame.key =
         { present := o.frame.present, version := o.frame.version, value := o.frame.value } ∧
       t.publishing o.frame.key = false ∧
       (∀ k : Key, k ≠ o.frame.key → t.committed k = s.committed k ∧ t.publishing k = s.publishing k) ∧
       t.home.outbound = rest ∧ t.home.inbound = s.home.inbound ∧
       (CopyLaw s → WatchLaw s → TrackerLaw s → PublishTaken s t o.frame)) ∧
  (∀ (s : State) (winner : Station) (own : OwnFrame) (bs : List Byte) (o : OutboundEntry)
       (rest : List OutboundEntry) (ack rty chk : Bool) (order : List Nat),
     s.atRest → s.span.intruder = .absent → s.span.synced = true → s.home.heldPlace = false →
     (chk = true ∨ s.span.chk = true) →
     s.formation.state = .member →
     s.home.outbound = o :: rest → own.source = .outbound → own.frame = o.frame → o.frame.code = 11 →
     s.span.tenure = .window (some winner) (some own) (some bs) →
     ∃ t, exec (.responseWindowClose ack rty chk order) s = .next t ∧
       t.home = { s.home with outbound := { o with attempts := o.attempts + 1 } :: rest } ∧
       t.formation = s.formation ∧ t.copies = s.copies ∧ t.slots = s.slots ∧ t.tracker = s.tracker ∧
       t.engine = s.engine ∧ t.watch = s.watch ∧ t.port = { s.port with fresh := 0 }) ∧
  ∀ (s : State) (winner : Station) (own : OwnFrame) (bs : List Byte) (o : OutboundEntry)
      (rest : List OutboundEntry) (ack rty chk : Bool) (order : List Nat),
    s.atRest → s.span.intruder = .absent → s.span.synced = true → s.formation.state = .member →
    s.home.heldPlace = false → s.span.ack = false → s.span.rty = false → s.home.outbound = o :: rest → own.source = .outbound →
    own.frame = o.frame → (o.frame.code = 10 ∨ o.frame.code = 12) → o.frame.sender = s.pins.station →
    o.frame.target ≠ s.pins.station →
    s.span.tenure = .window (some winner) (some own) (some bs) →
    let sent : Prop := bs = o.frame.bytes ∧ (o.frame.long = false → o.frame.value = zeroValue)
    let voided : Prop := chk = true ∨ s.span.chk = true ∨ frameIntact bs = false
    let alive : FormationController :=
      if ack = true ∨ rty = true then s.aliveAtClose o.frame.target else s.formation
    let closed : State :=
      s.windowClosed (some (if frameIntact bs = true then (Frame.ofBytes bs).sender else winner))
    (sent → ¬ voided → ack = true →
      exec (.responseWindowClose ack rty chk order) s = .next ({ closed with
        home := { s.home with outbound := rest }
        formation := alive } : State).refreshReq) ∧
    ((voided ∨ sent ∧ ack = false) →
      exec (.responseWindowClose ack rty chk order) s = .next ({ closed with
        home := { s.home with outbound := { o with attempts := o.attempts + 1 } :: rest }
        formation := alive } : State).refreshReq)

/-- A ROLL at a LISTEN or ROLLED station (R120 to R123): the sender joins the roll list, a higher proposal is kept, a
queued CLOSE is withdrawn, and a ROLLED station's close timer starts again at 6 ms + 0.5 ms for each station of
the list with a lower number. The station's own ROLL leaves the candidates and makes a LISTEN station ROLLED first, so
that its close timer starts (R112, R120). A LISTEN station that the ROLL syncs queues its own ROLL at the same event (R103,
R119). -/
def Obligations.TakenRollJoinsTheRollList : Prop :=
  ∀ (s : State) (winner : Option Station) (own : Option OwnFrame) (f : Frame) (ack rty : Bool)
      (order : List Nat),
    s.closingFrame winner own f →
    s.formation.state = .listen ∨ s.formation.state = .rolled → f.code = 1 → f.long = false →
    (own = none ∨ own = some { source := .formation .roll, frame := f }) →
    let now : Time := max s.clock (s.pins.spdReleased + 50)
    let state : StationState := if own = none then s.formation.state else .rolled
    ∃ t, exec (.responseWindowClose ack rty false order) s = .next t ∧
      (∀ n : Station, t.formation.rollList.getLsbD n.toNat = true ↔
        s.formation.rollList.getLsbD n.toNat = true ∨ n = f.sender) ∧
      t.formation.highest.toNat = max s.formation.highest.toNat f.aux.toNat ∧
      t.formation.close = none ∧
      t.formation.closeTimer =
        (if state = .rolled then
          some (now + 300000 + 25000 *
            ((allStations.filter fun n =>
              decide (n.toNat < s.pins.station.toNat) && t.formation.rollList.getLsbD n.toNat).length))
        else s.formation.closeTimer) ∧
      t.formation.state = state ∧ t.formation.epoch = s.formation.epoch ∧
      t.formation.roll =
        (if own ≠ none then none
        else if s.span.synced = false ∧ s.formation.state = .listen then some s.formation.proposal
        else s.formation.roll) ∧
      t.formation.reform = s.formation.reform ∧ t.formation.proposal = s.formation.proposal ∧
      t.span.synced = true ∧ t.span.lastWinner = some f.sender ∧
      t.home = s.home ∧ t.copies = s.copies ∧ t.slots = s.slots ∧ t.tracker = s.tracker ∧
      t.watch = s.watch ∧ t.engine = s.engine ∧ t.port = { s.port with fresh := 0 }

/-- A formation CLOSE adopted by a LISTEN or ROLLED station, another station's or its own (R112, R124, R125): timers and
candidates but the REFORM are withdrawn, the roll list emptied, LATE_ROLL cleared; with its own bit set the station is a
MEMBER of the CLOSE's epoch, its table holding the bitmap's stations in ascending order, each UP with count 0 and ranked
by position; else it is EXCLUDED with that heard epoch. From then on the home of a key is the member whose rank is the
key modulo P, and the station is home to the keys whose home it is itself (R4). -/
def Obligations.FormationCloseIsAdopted : Prop :=
  (∀ (s : State) (winner : Option Station) (own : Option OwnFrame) (f : Frame) (ack rty : Bool)
       (order : List Nat),
     s.closingFrame winner own f → MemberLaw s →
     s.formation.state = .listen ∨ s.formation.state = .rolled → f.code = 2 → f.reclose = false →
     f.long = false → (own = none ∨ own = some { source := .formation .close, frame := f }) →
     ∃ t, exec (.responseWindowClose ack rty false order) s = .next t ∧
       t.formation.closeTimer = none ∧ t.formation.recloseTimer = none ∧ t.formation.roll = none ∧
       t.formation.close = none ∧ t.formation.rollList = 0 ∧ t.formation.highest = 0 ∧
       t.formation.lateRoll = false ∧ t.formation.reform = s.formation.reform ∧
       t.formation.epoch = f.epoch ∧
       (f.key.getLsbD s.pins.station.toNat = true →
         t.formation.state = .member ∧
         t.formation.members.map Member.station =
           allStations.filter (fun n => f.key.getLsbD n.toNat) ∧
         t.formation.members.map Member.rank = List.range t.formation.members.length ∧
         ∀ m ∈ t.formation.members, m.health = .up ∧ m.silence = 0 ∧ m.evidenceAt = none) ∧
       (f.key.getLsbD s.pins.station.toNat = false →
         t.formation.state = .excluded ∧ t.formation.members = []) ∧
       t.span.synced = true ∧ t.span.lastWinner = some f.sender ∧ t.home = s.home ∧
       t.copies = s.copies ∧ t.slots = s.slots ∧ t.tracker = s.tracker ∧ t.watch = s.watch ∧
       t.engine = s.engine.retest ∧ t.port = { s.port with fresh := 0 }) ∧
  ∀ (s : State) (k : Key), MemberLaw s → s.formation.state = .member →
    ∃ m ∈ s.formation.members, s.formation.homeOf k = some m ∧
      m.rank = k.toNat % s.formation.members.length ∧
      (∀ x ∈ s.formation.members, x.rank = k.toNat % s.formation.members.length → x = m) ∧
      (s.ownHome k = true ↔ m.station = s.pins.station)

/-- A ROLL at a MEMBER (R128): a roller outside the table sets LATE_ROLL; a member that is not LOST becomes LOST, and
every block lets go of its keys (R127: `MemberWithdrawn`), where a roller outside the table or LOST already leaves the
blocks as they were; and the re-close timer starts at 100 µs + 300 µs for each UP member with a lower number than this
station that is not the roller, unless a re-close is queued. The completions of the ended entries may join in any
order (R171; notes/assumptions/6.md). -/
def Obligations.LateRollStartsTheReclose : Prop :=
  ∀ (s : State) (winner : Station) (f : Frame) (ack rty : Bool) (order : List Nat),
    s.closingWindow (some winner) f → MemberLaw s → s.span.synced = true → s.formation.state = .member →
    f.sender ≠ s.pins.station → f.code = 1 → f.long = false →
    let now : Time := max s.clock (s.pins.spdReleased + 50)
    let lower : Nat :=
      (s.formation.members.filter fun m =>
        m.health == .up && decide (m.station.toNat < s.pins.station.toNat) && m.station != f.sender).length
    ∃ t, exec (.responseWindowClose ack rty false order) s = .next t ∧
      t.formation = { s.formation with
        members := s.formation.members.map fun x =>
          if x.station = f.sender then { x with health := .lost } else x
        lateRoll := s.formation.lateRoll || s.formation.members.all fun x => x.station != f.sender
        recloseTimer :=
          if s.formation.close = none then some (now + 5000 + 15000 * lower)
          else s.formation.recloseTimer } ∧
      (∀ m ∈ s.formation.members, m.station = f.sender → m.health ≠ .lost → MemberWithdrawn s t m) ∧
      ((∀ m ∈ s.formation.members, m.station = f.sender → m.health = .lost) →
        t.copies = s.copies ∧ t.slots = s.slots ∧ t.tracker = s.tracker ∧ t.engine = s.engine ∧
          t.watch = s.watch ∧ t.port = { s.port with fresh := 0 }) ∧
      t.home = s.home ∧ t.span.lastWinner = some f.sender

/-- Table traffic or a re-close taken by a LISTEN or ROLLED station excludes it (R130, R132): the heard epoch is the
frame's, timers, roll list and the ROLL and CLOSE candidates go, a queued REFORM stays, and the head is tested
again. -/
def Obligations.ForeignTrafficExcludesAFormingStation : Prop :=
  ∀ (s : State) (winner : Option Station) (f : Frame) (ack rty : Bool) (order : List Nat),
    s.closingWindow winner f →
    s.formation.state = .listen ∨ s.formation.state = .rolled →
    (f.code ∈ [8, 9, 10, 12] ∧ (ack = true ∨ s.span.ack = true) ∨ f.code = 11 ∨
      f.code = 2 ∧ f.reclose = true) →
    ∃ t, exec (.responseWindowClose ack rty false order) s = .next t ∧
      t.formation = { s.formation with
        state := .excluded
        epoch := f.epoch
        rollList := 0
        highest := 0
        closeTimer := none
        recloseTimer := none
        members := []
        roll := none
        close := none } ∧
      t.span.synced = true ∧ t.home = s.home ∧ t.copies = s.copies ∧ t.slots = s.slots ∧
      t.tracker = s.tracker ∧ t.watch = s.watch ∧ t.engine = s.engine.retest ∧
      t.port = { s.port with fresh := 0 }

/-- A re-close that excludes a MEMBER (R38, R58, R74, R95, R131, R132): the home store is kept without its marks, the
queues, copies and pending entries go, every slot is EMPTY with key and version kept, each entry's command
completes NOT_MEMBER, once each and in any order (R171; notes/assumptions/6.md), and the watches stay. -/
def Obligations.ExcludedMemberGivesUpItsWork : Prop :=
  ∀ (s : State) (winner : Station) (f : Frame) (ack rty : Bool) (order : List Nat),
    s.closingWindow (some winner) f → HomeLaw s → s.span.synced = true → s.formation.state = .member →
    f.code = 2 → f.reclose = true → f.long = false →
    let same : Prop :=
      ∀ n : Station, f.key.getLsbD n.toNat = true ↔ ∃ m ∈ s.formation.members, m.station = n
    (f.epoch = s.formation.epoch ∧ ¬ same ∨
      f.epoch ≠ s.formation.epoch ∧ f.key.getLsbD s.pins.station.toNat = false) →
    ∃ t, exec (.responseWindowClose ack rty false order) s = .next t ∧
      t.formation = { s.formation with
        state := .excluded
        epoch := f.epoch
        rollList := 0
        highest := 0
        closeTimer := none
        recloseTimer := none
        members := []
        roll := none
        close := none } ∧
      (∀ k : Key, t.committed k = s.committed k ∧ t.publishing k = false) ∧
      t.home.inbound = [] ∧ t.home.outbound = [] ∧
      (∀ (g : Fin 64) (w : Fin 4), t.copies[g][w] = CopyEntry.cleared) ∧
      (∀ n : Fin 4, t.slots[n] = { s.slots[n] with state := .empty }) ∧
      (∀ i : Fin 8, t.tracker.entries[i] = none) ∧ t.tracker.generations = s.tracker.generations ∧
      t.tracker.nextIndex = s.tracker.nextIndex ∧
      (∃ new : List QueueRecord, new.Perm (s.endedRecords (fun _ => true) .notMember) ∧
        t.port = { s.port with
          completions := s.port.completions ++ new
          outstanding := s.port.outstanding - new.length
          fresh := t.port.fresh }) ∧
      t.watch = s.watch ∧ t.engine = s.engine.retest

/-- A REFORM of another epoch than the station's own or heard one, another station's or its own, taken in any station
state (R14, R37, R57, R74, R94, R134, R135, R163): the station is in LISTEN with a ROLL of that epoch queued, every block
is cleared, each pending entry completes REFORMED and each REFORM command held OK, once each, and every watch in use is
FIRED with reason REFORMED, keeping key, cookie and every; ARMED ones join the fired list in ascending order of key. The
tags' generations and pointer and the command queue stay. That the OK completion carries key 0 is the model's choice
(notes/assumptions/13.md), and the completions may join in any order (R171; notes/assumptions/6.md). A REFORM of the
station's own or heard epoch is not taken and leaves the station as it stands (R136); where it is the station's own
frame it stays queued with its epoch computed afresh, and its commands stay outstanding (R134). -/
def Obligations.TakenReformClearsEveryBlock : Prop :=
  (∀ (s : State) (winner : Option Station) (own : Option OwnFrame) (f : Frame) (ack rty : Bool)
       (order : List Nat),
     s.closingFrame winner own f → f.code = 3 → f.long = false → f.epoch ≠ s.formation.epoch →
     (own = none ∨ own = some { source := .formation .reform, frame := f }) →
     ∃ t, exec (.responseWindowClose ack rty false order) s = .next t ∧
       t.formation =
         { state := .listen
           epoch := f.epoch
           proposal := f.epoch
           rollList := 0
           highest := 0
           closeTimer := none
           recloseTimer := none
           members := []
           lateRoll := s.formation.lateRoll
           reform := none
           roll := some f.epoch
           close := none
           reformTags := [] } ∧
       (∀ k : Key, t.committed k = { present := false, version := 0, value := zeroValue } ∧
         t.publishing k = false) ∧
       t.home.inbound = [] ∧ t.home.heldPlace = false ∧ t.home.outbound = [] ∧
       (∀ (g : Fin 64) (w : Fin 4), t.copies[g][w] = CopyEntry.cleared) ∧
       (∀ n : Fin 4, t.slots[n] = { state := .empty, key := 0, version := 0 }) ∧
       (∀ i : Fin 8, t.tracker.entries[i] = none) ∧ t.tracker.generations = s.tracker.generations ∧
       t.tracker.nextIndex = s.tracker.nextIndex ∧
       (∀ i : Fin 32, t.watch.entries[i] =
         if s.watch.entries[i].state = .free then s.watch.entries[i]
         else
           { s.watch.entries[i] with
             state := .fired
             firing :=
               { reason := .reformed
                 origin := f.sender
                 record := { present := false, version := 0, value := zeroValue } } }) ∧
       (∃ new : List (Fin 32), t.watch.fired = s.watch.fired ++ new ∧ new.Nodup ∧
         new.Pairwise (fun i j => s.watch.entries[i].key.toNat ≤ s.watch.entries[j].key.toNat) ∧
         ∀ i : Fin 32, i ∈ new ↔ s.watch.entries[i].state = .armed) ∧
       (∃ new : List QueueRecord,
         new.Perm (s.endedRecords (fun _ => true) .reformed ++
           s.formation.reformTags.map fun tag => .completion
             { hostTag := tag, outcome := .ok, key := 0, version := 0, present := false, value := none }) ∧
         t.port = { s.port with
           completions := s.port.completions ++ new
           outstanding := s.port.outstanding - new.length
           fresh := t.port.fresh }) ∧
       t.span.synced = true ∧ t.span.lastWinner = some f.sender ∧ t.engine = s.engine.retest) ∧
  ∀ (s : State) (winner : Option Station) (own : Option OwnFrame) (f : Frame) (ack rty : Bool)
      (order : List Nat),
    s.closingFrame winner own f → s.span.synced = true → f.code = 3 → f.long = false →
    f.epoch = s.formation.epoch → (own = none ∨ own = some { source := .formation .reform, frame := f }) →
    exec (.responseWindowClose ack rty false order) s = .next ({ s.windowClosed (some f.sender) with
      formation :=
        if own ≠ none ∧ s.formation.reform ≠ none then
          { s.formation with reform := some (s.formation.epoch + 1) }
        else s.formation } : State).refreshReq
end

