-- ==== Sys2Proof/Laws/State.lean ====
section
/-! SUPPORT. What each update of the state leaves as it was: one lemma for each field and update. -/

namespace Sys2Proof.Machine

/-! ### `State.retest` -/

@[simp] theorem State.retest_clock (s : State) : s.retest.clock = s.clock := rfl
@[simp] theorem State.retest_pins (s : State) : s.retest.pins = s.pins := rfl
@[simp] theorem State.retest_span (s : State) : s.retest.span = s.span := rfl
@[simp] theorem State.retest_formation (s : State) : s.retest.formation = s.formation := rfl
@[simp] theorem State.retest_home (s : State) : s.retest.home = s.home := rfl
@[simp] theorem State.retest_copies (s : State) : s.retest.copies = s.copies := rfl
@[simp] theorem State.retest_slots (s : State) : s.retest.slots = s.slots := rfl
@[simp] theorem State.retest_tracker (s : State) : s.retest.tracker = s.tracker := rfl
@[simp] theorem State.retest_watch (s : State) : s.retest.watch = s.watch := rfl
@[simp] theorem State.retest_port (s : State) : s.retest.port = s.port := rfl
@[simp] theorem State.retest_pending (s : State) : s.retest.pending = s.pending := rfl
@[simp] theorem State.retest_seen (s : State) : s.retest.seen = s.seen := rfl

/-! ### `State.leaveHead` -/

@[simp] theorem State.leaveHead_clock (s : State) : s.leaveHead.clock = s.clock := rfl
@[simp] theorem State.leaveHead_pins (s : State) : s.leaveHead.pins = s.pins := rfl
@[simp] theorem State.leaveHead_span (s : State) : s.leaveHead.span = s.span := rfl
@[simp] theorem State.leaveHead_formation (s : State) : s.leaveHead.formation = s.formation := rfl
@[simp] theorem State.leaveHead_home (s : State) : s.leaveHead.home = s.home := rfl
@[simp] theorem State.leaveHead_copies (s : State) : s.leaveHead.copies = s.copies := rfl
@[simp] theorem State.leaveHead_slots (s : State) : s.leaveHead.slots = s.slots := rfl
@[simp] theorem State.leaveHead_tracker (s : State) : s.leaveHead.tracker = s.tracker := rfl
@[simp] theorem State.leaveHead_watch (s : State) : s.leaveHead.watch = s.watch := rfl
@[simp] theorem State.leaveHead_pending (s : State) : s.leaveHead.pending = s.pending := rfl
@[simp] theorem State.leaveHead_seen (s : State) : s.leaveHead.seen = s.seen := rfl

/-! ### `State.complete` -/

@[simp] theorem State.complete_clock (s : State) (c : Completion) : (s.complete c).clock = s.clock := rfl
@[simp] theorem State.complete_pins (s : State) (c : Completion) : (s.complete c).pins = s.pins := rfl
@[simp] theorem State.complete_span (s : State) (c : Completion) : (s.complete c).span = s.span := rfl
@[simp] theorem State.complete_formation (s : State) (c : Completion) : (s.complete c).formation = s.formation := rfl
@[simp] theorem State.complete_home (s : State) (c : Completion) : (s.complete c).home = s.home := rfl
@[simp] theorem State.complete_copies (s : State) (c : Completion) : (s.complete c).copies = s.copies := rfl
@[simp] theorem State.complete_slots (s : State) (c : Completion) : (s.complete c).slots = s.slots := rfl
@[simp] theorem State.complete_tracker (s : State) (c : Completion) : (s.complete c).tracker = s.tracker := rfl
@[simp] theorem State.complete_engine (s : State) (c : Completion) : (s.complete c).engine = s.engine := rfl
@[simp] theorem State.complete_watch (s : State) (c : Completion) : (s.complete c).watch = s.watch := rfl
@[simp] theorem State.complete_pending (s : State) (c : Completion) : (s.complete c).pending = s.pending := rfl
@[simp] theorem State.complete_seen (s : State) (c : Completion) : (s.complete c).seen = s.seen := rfl

/-! ### `State.emptySlot` -/

@[simp] theorem State.emptySlot_clock (s : State) (n : Fin 4) : (s.emptySlot n).clock = s.clock := rfl
@[simp] theorem State.emptySlot_pins (s : State) (n : Fin 4) : (s.emptySlot n).pins = s.pins := rfl
@[simp] theorem State.emptySlot_span (s : State) (n : Fin 4) : (s.emptySlot n).span = s.span := rfl
@[simp] theorem State.emptySlot_formation (s : State) (n : Fin 4) : (s.emptySlot n).formation = s.formation := rfl
@[simp] theorem State.emptySlot_home (s : State) (n : Fin 4) : (s.emptySlot n).home = s.home := rfl
@[simp] theorem State.emptySlot_copies (s : State) (n : Fin 4) : (s.emptySlot n).copies = s.copies := rfl
@[simp] theorem State.emptySlot_tracker (s : State) (n : Fin 4) : (s.emptySlot n).tracker = s.tracker := rfl
@[simp] theorem State.emptySlot_engine (s : State) (n : Fin 4) : (s.emptySlot n).engine = s.engine := rfl
@[simp] theorem State.emptySlot_watch (s : State) (n : Fin 4) : (s.emptySlot n).watch = s.watch := rfl
@[simp] theorem State.emptySlot_port (s : State) (n : Fin 4) : (s.emptySlot n).port = s.port := rfl
@[simp] theorem State.emptySlot_pending (s : State) (n : Fin 4) : (s.emptySlot n).pending = s.pending := rfl
@[simp] theorem State.emptySlot_seen (s : State) (n : Fin 4) : (s.emptySlot n).seen = s.seen := rfl

/-! ### `State.holdSlot` -/

@[simp] theorem State.holdSlot_clock (s : State) (n : Fin 4) (k : Key) (v : Version) : (s.holdSlot n k v).clock = s.clock := rfl
@[simp] theorem State.holdSlot_pins (s : State) (n : Fin 4) (k : Key) (v : Version) : (s.holdSlot n k v).pins = s.pins := rfl
@[simp] theorem State.holdSlot_span (s : State) (n : Fin 4) (k : Key) (v : Version) : (s.holdSlot n k v).span = s.span := rfl
@[simp] theorem State.holdSlot_formation (s : State) (n : Fin 4) (k : Key) (v : Version) : (s.holdSlot n k v).formation = s.formation := rfl
@[simp] theorem State.holdSlot_home (s : State) (n : Fin 4) (k : Key) (v : Version) : (s.holdSlot n k v).home = s.home := rfl
@[simp] theorem State.holdSlot_copies (s : State) (n : Fin 4) (k : Key) (v : Version) : (s.holdSlot n k v).copies = s.copies := rfl
@[simp] theorem State.holdSlot_tracker (s : State) (n : Fin 4) (k : Key) (v : Version) : (s.holdSlot n k v).tracker = s.tracker := rfl
@[simp] theorem State.holdSlot_engine (s : State) (n : Fin 4) (k : Key) (v : Version) : (s.holdSlot n k v).engine = s.engine := rfl
@[simp] theorem State.holdSlot_watch (s : State) (n : Fin 4) (k : Key) (v : Version) : (s.holdSlot n k v).watch = s.watch := rfl
@[simp] theorem State.holdSlot_port (s : State) (n : Fin 4) (k : Key) (v : Version) : (s.holdSlot n k v).port = s.port := rfl
@[simp] theorem State.holdSlot_pending (s : State) (n : Fin 4) (k : Key) (v : Version) : (s.holdSlot n k v).pending = s.pending := rfl
@[simp] theorem State.holdSlot_seen (s : State) (n : Fin 4) (k : Key) (v : Version) : (s.holdSlot n k v).seen = s.seen := rfl

/-! ### `State.loseSlots` -/

@[simp] theorem State.loseSlots_clock (s : State) (p : Key → Bool) : (s.loseSlots p).clock = s.clock := rfl
@[simp] theorem State.loseSlots_pins (s : State) (p : Key → Bool) : (s.loseSlots p).pins = s.pins := rfl
@[simp] theorem State.loseSlots_span (s : State) (p : Key → Bool) : (s.loseSlots p).span = s.span := rfl
@[simp] theorem State.loseSlots_formation (s : State) (p : Key → Bool) : (s.loseSlots p).formation = s.formation := rfl
@[simp] theorem State.loseSlots_home (s : State) (p : Key → Bool) : (s.loseSlots p).home = s.home := rfl
@[simp] theorem State.loseSlots_copies (s : State) (p : Key → Bool) : (s.loseSlots p).copies = s.copies := rfl
@[simp] theorem State.loseSlots_tracker (s : State) (p : Key → Bool) : (s.loseSlots p).tracker = s.tracker := rfl
@[simp] theorem State.loseSlots_engine (s : State) (p : Key → Bool) : (s.loseSlots p).engine = s.engine := rfl
@[simp] theorem State.loseSlots_watch (s : State) (p : Key → Bool) : (s.loseSlots p).watch = s.watch := rfl
@[simp] theorem State.loseSlots_port (s : State) (p : Key → Bool) : (s.loseSlots p).port = s.port := rfl
@[simp] theorem State.loseSlots_pending (s : State) (p : Key → Bool) : (s.loseSlots p).pending = s.pending := rfl
@[simp] theorem State.loseSlots_seen (s : State) (p : Key → Bool) : (s.loseSlots p).seen = s.seen := rfl

/-! ### `State.releaseEntry` -/

@[simp] theorem State.releaseEntry_clock (s : State) (i : Fin 8) : (s.releaseEntry i).clock = s.clock := rfl
@[simp] theorem State.releaseEntry_pins (s : State) (i : Fin 8) : (s.releaseEntry i).pins = s.pins := rfl
@[simp] theorem State.releaseEntry_span (s : State) (i : Fin 8) : (s.releaseEntry i).span = s.span := rfl
@[simp] theorem State.releaseEntry_formation (s : State) (i : Fin 8) : (s.releaseEntry i).formation = s.formation := rfl
@[simp] theorem State.releaseEntry_home (s : State) (i : Fin 8) : (s.releaseEntry i).home = s.home := rfl
@[simp] theorem State.releaseEntry_copies (s : State) (i : Fin 8) : (s.releaseEntry i).copies = s.copies := rfl
@[simp] theorem State.releaseEntry_slots (s : State) (i : Fin 8) : (s.releaseEntry i).slots = s.slots := rfl
@[simp] theorem State.releaseEntry_watch (s : State) (i : Fin 8) : (s.releaseEntry i).watch = s.watch := rfl
@[simp] theorem State.releaseEntry_port (s : State) (i : Fin 8) : (s.releaseEntry i).port = s.port := rfl
@[simp] theorem State.releaseEntry_pending (s : State) (i : Fin 8) : (s.releaseEntry i).pending = s.pending := rfl
@[simp] theorem State.releaseEntry_seen (s : State) (i : Fin 8) : (s.releaseEntry i).seen = s.seen := rfl

/-! ### `State.refreshReq` -/

@[simp] theorem State.refreshReq_clock (s : State) : s.refreshReq.clock = s.clock := rfl
@[simp] theorem State.refreshReq_pins (s : State) : s.refreshReq.pins = s.pins := rfl
@[simp] theorem State.refreshReq_formation (s : State) : s.refreshReq.formation = s.formation := rfl
@[simp] theorem State.refreshReq_home (s : State) : s.refreshReq.home = s.home := rfl
@[simp] theorem State.refreshReq_copies (s : State) : s.refreshReq.copies = s.copies := rfl
@[simp] theorem State.refreshReq_slots (s : State) : s.refreshReq.slots = s.slots := rfl
@[simp] theorem State.refreshReq_tracker (s : State) : s.refreshReq.tracker = s.tracker := rfl
@[simp] theorem State.refreshReq_engine (s : State) : s.refreshReq.engine = s.engine := rfl
@[simp] theorem State.refreshReq_watch (s : State) : s.refreshReq.watch = s.watch := rfl
@[simp] theorem State.refreshReq_port (s : State) : s.refreshReq.port = s.port := rfl
@[simp] theorem State.refreshReq_pending (s : State) : s.refreshReq.pending = s.pending := rfl
@[simp] theorem State.refreshReq_seen (s : State) : s.refreshReq.seen = s.seen := rfl

/-! ### `State.startEvent` -/

@[simp] theorem State.startEvent_clock (s : State) : s.startEvent.clock = s.clock := rfl
@[simp] theorem State.startEvent_pins (s : State) : s.startEvent.pins = s.pins := rfl
@[simp] theorem State.startEvent_span (s : State) : s.startEvent.span = s.span := rfl
@[simp] theorem State.startEvent_formation (s : State) : s.startEvent.formation = s.formation := rfl
@[simp] theorem State.startEvent_home (s : State) : s.startEvent.home = s.home := rfl
@[simp] theorem State.startEvent_copies (s : State) : s.startEvent.copies = s.copies := rfl
@[simp] theorem State.startEvent_slots (s : State) : s.startEvent.slots = s.slots := rfl
@[simp] theorem State.startEvent_tracker (s : State) : s.startEvent.tracker = s.tracker := rfl
@[simp] theorem State.startEvent_engine (s : State) : s.startEvent.engine = s.engine := rfl
@[simp] theorem State.startEvent_watch (s : State) : s.startEvent.watch = s.watch := rfl
@[simp] theorem State.startEvent_pending (s : State) : s.startEvent.pending = s.pending := rfl

/-! ### `State.advance` -/

@[simp] theorem State.advance_pins (s : State) (u : Time) : (s.advance u).pins = s.pins := rfl
@[simp] theorem State.advance_span (s : State) (u : Time) : (s.advance u).span = s.span := rfl
@[simp] theorem State.advance_formation (s : State) (u : Time) : (s.advance u).formation = s.formation := rfl
@[simp] theorem State.advance_home (s : State) (u : Time) : (s.advance u).home = s.home := rfl
@[simp] theorem State.advance_copies (s : State) (u : Time) : (s.advance u).copies = s.copies := rfl
@[simp] theorem State.advance_slots (s : State) (u : Time) : (s.advance u).slots = s.slots := rfl
@[simp] theorem State.advance_tracker (s : State) (u : Time) : (s.advance u).tracker = s.tracker := rfl
@[simp] theorem State.advance_engine (s : State) (u : Time) : (s.advance u).engine = s.engine := rfl
@[simp] theorem State.advance_watch (s : State) (u : Time) : (s.advance u).watch = s.watch := rfl
@[simp] theorem State.advance_port (s : State) (u : Time) : (s.advance u).port = s.port := rfl
@[simp] theorem State.advance_pending (s : State) (u : Time) : (s.advance u).pending = s.pending := rfl
@[simp] theorem State.advance_seen (s : State) (u : Time) : (s.advance u).seen = s.seen := rfl

/-! ### `State.sendFrame` -/

@[simp] theorem State.sendFrame_clock (s : State) (f : Frame) (b : Bool) : (s.sendFrame f b).clock = s.clock := rfl
@[simp] theorem State.sendFrame_pins (s : State) (f : Frame) (b : Bool) : (s.sendFrame f b).pins = s.pins := rfl
@[simp] theorem State.sendFrame_span (s : State) (f : Frame) (b : Bool) : (s.sendFrame f b).span = s.span := rfl
@[simp] theorem State.sendFrame_formation (s : State) (f : Frame) (b : Bool) : (s.sendFrame f b).formation = s.formation := rfl
@[simp] theorem State.sendFrame_copies (s : State) (f : Frame) (b : Bool) : (s.sendFrame f b).copies = s.copies := rfl
@[simp] theorem State.sendFrame_slots (s : State) (f : Frame) (b : Bool) : (s.sendFrame f b).slots = s.slots := rfl
@[simp] theorem State.sendFrame_tracker (s : State) (f : Frame) (b : Bool) : (s.sendFrame f b).tracker = s.tracker := rfl
@[simp] theorem State.sendFrame_engine (s : State) (f : Frame) (b : Bool) : (s.sendFrame f b).engine = s.engine := rfl
@[simp] theorem State.sendFrame_watch (s : State) (f : Frame) (b : Bool) : (s.sendFrame f b).watch = s.watch := rfl
@[simp] theorem State.sendFrame_port (s : State) (f : Frame) (b : Bool) : (s.sendFrame f b).port = s.port := rfl
@[simp] theorem State.sendFrame_pending (s : State) (f : Frame) (b : Bool) : (s.sendFrame f b).pending = s.pending := rfl
@[simp] theorem State.sendFrame_seen (s : State) (f : Frame) (b : Bool) : (s.sendFrame f b).seen = s.seen := rfl

/-! ### `State.popInbound` -/

@[simp] theorem State.popInbound_clock (s : State) : s.popInbound.clock = s.clock := rfl
@[simp] theorem State.popInbound_pins (s : State) : s.popInbound.pins = s.pins := rfl
@[simp] theorem State.popInbound_span (s : State) : s.popInbound.span = s.span := rfl
@[simp] theorem State.popInbound_formation (s : State) : s.popInbound.formation = s.formation := rfl
@[simp] theorem State.popInbound_copies (s : State) : s.popInbound.copies = s.copies := rfl
@[simp] theorem State.popInbound_slots (s : State) : s.popInbound.slots = s.slots := rfl
@[simp] theorem State.popInbound_tracker (s : State) : s.popInbound.tracker = s.tracker := rfl
@[simp] theorem State.popInbound_watch (s : State) : s.popInbound.watch = s.watch := rfl
@[simp] theorem State.popInbound_port (s : State) : s.popInbound.port = s.port := rfl
@[simp] theorem State.popInbound_pending (s : State) : s.popInbound.pending = s.pending := rfl
@[simp] theorem State.popInbound_seen (s : State) : s.popInbound.seen = s.seen := rfl

/-! ### `State.popOutbound` -/

@[simp] theorem State.popOutbound_clock (s : State) : s.popOutbound.clock = s.clock := rfl
@[simp] theorem State.popOutbound_pins (s : State) : s.popOutbound.pins = s.pins := rfl
@[simp] theorem State.popOutbound_span (s : State) : s.popOutbound.span = s.span := rfl
@[simp] theorem State.popOutbound_formation (s : State) : s.popOutbound.formation = s.formation := rfl
@[simp] theorem State.popOutbound_copies (s : State) : s.popOutbound.copies = s.copies := rfl
@[simp] theorem State.popOutbound_slots (s : State) : s.popOutbound.slots = s.slots := rfl
@[simp] theorem State.popOutbound_tracker (s : State) : s.popOutbound.tracker = s.tracker := rfl
@[simp] theorem State.popOutbound_engine (s : State) : s.popOutbound.engine = s.engine := rfl
@[simp] theorem State.popOutbound_watch (s : State) : s.popOutbound.watch = s.watch := rfl
@[simp] theorem State.popOutbound_port (s : State) : s.popOutbound.port = s.port := rfl
@[simp] theorem State.popOutbound_pending (s : State) : s.popOutbound.pending = s.pending := rfl
@[simp] theorem State.popOutbound_seen (s : State) : s.popOutbound.seen = s.seen := rfl

/-! ### `State.waitHead` -/

@[simp] theorem State.waitHead_clock (s : State) (kind : CommandKind) : (s.waitHead kind).clock = s.clock := rfl
@[simp] theorem State.waitHead_pins (s : State) (kind : CommandKind) : (s.waitHead kind).pins = s.pins := rfl
@[simp] theorem State.waitHead_span (s : State) (kind : CommandKind) : (s.waitHead kind).span = s.span := rfl
@[simp] theorem State.waitHead_formation (s : State) (kind : CommandKind) : (s.waitHead kind).formation = s.formation := rfl
@[simp] theorem State.waitHead_home (s : State) (kind : CommandKind) : (s.waitHead kind).home = s.home := rfl
@[simp] theorem State.waitHead_copies (s : State) (kind : CommandKind) : (s.waitHead kind).copies = s.copies := rfl
@[simp] theorem State.waitHead_slots (s : State) (kind : CommandKind) : (s.waitHead kind).slots = s.slots := rfl
@[simp] theorem State.waitHead_tracker (s : State) (kind : CommandKind) : (s.waitHead kind).tracker = s.tracker := rfl
@[simp] theorem State.waitHead_watch (s : State) (kind : CommandKind) : (s.waitHead kind).watch = s.watch := rfl
@[simp] theorem State.waitHead_port (s : State) (kind : CommandKind) : (s.waitHead kind).port = s.port := rfl
@[simp] theorem State.waitHead_pending (s : State) (kind : CommandKind) : (s.waitHead kind).pending = s.pending := rfl
@[simp] theorem State.waitHead_seen (s : State) (kind : CommandKind) : (s.waitHead kind).seen = s.seen := rfl

/-! ### `State.finishHead` -/

@[simp] theorem State.finishHead_clock (s : State) (c : Completion) : (s.finishHead c).clock = s.clock := rfl
@[simp] theorem State.finishHead_pins (s : State) (c : Completion) : (s.finishHead c).pins = s.pins := rfl
@[simp] theorem State.finishHead_span (s : State) (c : Completion) : (s.finishHead c).span = s.span := rfl
@[simp] theorem State.finishHead_formation (s : State) (c : Completion) : (s.finishHead c).formation = s.formation := rfl
@[simp] theorem State.finishHead_home (s : State) (c : Completion) : (s.finishHead c).home = s.home := rfl
@[simp] theorem State.finishHead_copies (s : State) (c : Completion) : (s.finishHead c).copies = s.copies := rfl
@[simp] theorem State.finishHead_slots (s : State) (c : Completion) : (s.finishHead c).slots = s.slots := rfl
@[simp] theorem State.finishHead_tracker (s : State) (c : Completion) : (s.finishHead c).tracker = s.tracker := rfl
@[simp] theorem State.finishHead_watch (s : State) (c : Completion) : (s.finishHead c).watch = s.watch := rfl
@[simp] theorem State.finishHead_pending (s : State) (c : Completion) : (s.finishHead c).pending = s.pending := rfl
@[simp] theorem State.finishHead_seen (s : State) (c : Completion) : (s.finishHead c).seen = s.seen := rfl

/-! ### `State.acceptCommand` -/

@[simp] theorem State.acceptCommand_clock (s : State) (c : CommandRecord) : (s.acceptCommand c).clock = s.clock := rfl
@[simp] theorem State.acceptCommand_pins (s : State) (c : CommandRecord) : (s.acceptCommand c).pins = s.pins := rfl
@[simp] theorem State.acceptCommand_span (s : State) (c : CommandRecord) : (s.acceptCommand c).span = s.span := rfl
@[simp] theorem State.acceptCommand_formation (s : State) (c : CommandRecord) : (s.acceptCommand c).formation = s.formation := rfl
@[simp] theorem State.acceptCommand_home (s : State) (c : CommandRecord) : (s.acceptCommand c).home = s.home := rfl
@[simp] theorem State.acceptCommand_copies (s : State) (c : CommandRecord) : (s.acceptCommand c).copies = s.copies := rfl
@[simp] theorem State.acceptCommand_slots (s : State) (c : CommandRecord) : (s.acceptCommand c).slots = s.slots := rfl
@[simp] theorem State.acceptCommand_tracker (s : State) (c : CommandRecord) : (s.acceptCommand c).tracker = s.tracker := rfl
@[simp] theorem State.acceptCommand_watch (s : State) (c : CommandRecord) : (s.acceptCommand c).watch = s.watch := rfl
@[simp] theorem State.acceptCommand_pending (s : State) (c : CommandRecord) : (s.acceptCommand c).pending = s.pending := rfl
@[simp] theorem State.acceptCommand_seen (s : State) (c : CommandRecord) : (s.acceptCommand c).seen = s.seen := rfl

/-! ### `State.shiftOut` -/

@[simp] theorem State.shiftOut_clock (s : State) (u : Time) (bs : List Byte) (n : Nat) : (s.shiftOut u bs n).clock = s.clock := rfl
@[simp] theorem State.shiftOut_pins (s : State) (u : Time) (bs : List Byte) (n : Nat) : (s.shiftOut u bs n).pins = s.pins := rfl
@[simp] theorem State.shiftOut_span (s : State) (u : Time) (bs : List Byte) (n : Nat) : (s.shiftOut u bs n).span = s.span := rfl
@[simp] theorem State.shiftOut_formation (s : State) (u : Time) (bs : List Byte) (n : Nat) : (s.shiftOut u bs n).formation = s.formation := rfl
@[simp] theorem State.shiftOut_home (s : State) (u : Time) (bs : List Byte) (n : Nat) : (s.shiftOut u bs n).home = s.home := rfl
@[simp] theorem State.shiftOut_copies (s : State) (u : Time) (bs : List Byte) (n : Nat) : (s.shiftOut u bs n).copies = s.copies := rfl
@[simp] theorem State.shiftOut_slots (s : State) (u : Time) (bs : List Byte) (n : Nat) : (s.shiftOut u bs n).slots = s.slots := rfl
@[simp] theorem State.shiftOut_tracker (s : State) (u : Time) (bs : List Byte) (n : Nat) : (s.shiftOut u bs n).tracker = s.tracker := rfl
@[simp] theorem State.shiftOut_engine (s : State) (u : Time) (bs : List Byte) (n : Nat) : (s.shiftOut u bs n).engine = s.engine := rfl
@[simp] theorem State.shiftOut_watch (s : State) (u : Time) (bs : List Byte) (n : Nat) : (s.shiftOut u bs n).watch = s.watch := rfl
@[simp] theorem State.shiftOut_pending (s : State) (u : Time) (bs : List Byte) (n : Nat) : (s.shiftOut u bs n).pending = s.pending := rfl
@[simp] theorem State.shiftOut_seen (s : State) (u : Time) (bs : List Byte) (n : Nat) : (s.shiftOut u bs n).seen = s.seen := rfl

/-! ### `State.driveSpd` -/

@[simp] theorem State.driveSpd_clock (s : State) (x : Tenure) : (s.driveSpd x).clock = s.clock := rfl
@[simp] theorem State.driveSpd_formation (s : State) (x : Tenure) : (s.driveSpd x).formation = s.formation := rfl
@[simp] theorem State.driveSpd_home (s : State) (x : Tenure) : (s.driveSpd x).home = s.home := rfl
@[simp] theorem State.driveSpd_copies (s : State) (x : Tenure) : (s.driveSpd x).copies = s.copies := rfl
@[simp] theorem State.driveSpd_slots (s : State) (x : Tenure) : (s.driveSpd x).slots = s.slots := rfl
@[simp] theorem State.driveSpd_tracker (s : State) (x : Tenure) : (s.driveSpd x).tracker = s.tracker := rfl
@[simp] theorem State.driveSpd_engine (s : State) (x : Tenure) : (s.driveSpd x).engine = s.engine := rfl
@[simp] theorem State.driveSpd_watch (s : State) (x : Tenure) : (s.driveSpd x).watch = s.watch := rfl
@[simp] theorem State.driveSpd_port (s : State) (x : Tenure) : (s.driveSpd x).port = s.port := rfl
@[simp] theorem State.driveSpd_pending (s : State) (x : Tenure) : (s.driveSpd x).pending = s.pending := rfl
@[simp] theorem State.driveSpd_seen (s : State) (x : Tenure) : (s.driveSpd x).seen = s.seen := rfl

/-! ### `State.openUnheard` -/

@[simp] theorem State.openUnheard_clock (s : State) (w : Option Station) : (s.openUnheard w).clock = s.clock := rfl
@[simp] theorem State.openUnheard_pins (s : State) (w : Option Station) : (s.openUnheard w).pins = s.pins := rfl
@[simp] theorem State.openUnheard_formation (s : State) (w : Option Station) : (s.openUnheard w).formation = s.formation := rfl
@[simp] theorem State.openUnheard_home (s : State) (w : Option Station) : (s.openUnheard w).home = s.home := rfl
@[simp] theorem State.openUnheard_copies (s : State) (w : Option Station) : (s.openUnheard w).copies = s.copies := rfl
@[simp] theorem State.openUnheard_slots (s : State) (w : Option Station) : (s.openUnheard w).slots = s.slots := rfl
@[simp] theorem State.openUnheard_tracker (s : State) (w : Option Station) : (s.openUnheard w).tracker = s.tracker := rfl
@[simp] theorem State.openUnheard_engine (s : State) (w : Option Station) : (s.openUnheard w).engine = s.engine := rfl
@[simp] theorem State.openUnheard_watch (s : State) (w : Option Station) : (s.openUnheard w).watch = s.watch := rfl
@[simp] theorem State.openUnheard_port (s : State) (w : Option Station) : (s.openUnheard w).port = s.port := rfl
@[simp] theorem State.openUnheard_pending (s : State) (w : Option Station) : (s.openUnheard w).pending = s.pending := rfl
@[simp] theorem State.openUnheard_seen (s : State) (w : Option Station) : (s.openUnheard w).seen = s.seen := rfl

/-! ### `State.releaseIntruder` -/

@[simp] theorem State.releaseIntruder_formation (s : State) (bs : List Byte) : (s.releaseIntruder bs).formation = s.formation := rfl
@[simp] theorem State.releaseIntruder_home (s : State) (bs : List Byte) : (s.releaseIntruder bs).home = s.home := rfl
@[simp] theorem State.releaseIntruder_copies (s : State) (bs : List Byte) : (s.releaseIntruder bs).copies = s.copies := rfl
@[simp] theorem State.releaseIntruder_slots (s : State) (bs : List Byte) : (s.releaseIntruder bs).slots = s.slots := rfl
@[simp] theorem State.releaseIntruder_tracker (s : State) (bs : List Byte) : (s.releaseIntruder bs).tracker = s.tracker := rfl
@[simp] theorem State.releaseIntruder_engine (s : State) (bs : List Byte) : (s.releaseIntruder bs).engine = s.engine := rfl
@[simp] theorem State.releaseIntruder_watch (s : State) (bs : List Byte) : (s.releaseIntruder bs).watch = s.watch := rfl
@[simp] theorem State.releaseIntruder_port (s : State) (bs : List Byte) : (s.releaseIntruder bs).port = s.port := rfl
@[simp] theorem State.releaseIntruder_pending (s : State) (bs : List Byte) : (s.releaseIntruder bs).pending = s.pending := rfl
@[simp] theorem State.releaseIntruder_seen (s : State) (bs : List Byte) : (s.releaseIntruder bs).seen = s.seen := rfl
@[simp] theorem State.releaseIntruder_clock (s : State) (bs : List Byte) :
    (s.releaseIntruder bs).clock = max s.clock (s.pins.spdSince.getD s.clock + Timing.frameTime bs.length) := rfl

/-! ### What the updates write -/

@[simp] theorem State.retest_engine (s : State) : s.retest.engine = s.engine.retest := rfl
@[simp] theorem State.complete_port (s : State) (c : Completion) : (s.complete c).port = s.port.complete c := rfl
@[simp] theorem State.emptySlot_slots (s : State) (n : Fin 4) :
    (s.emptySlot n).slots = s.slots.set n { s.slots[n] with state := .empty } := rfl
@[simp] theorem State.holdSlot_slots (s : State) (n : Fin 4) (k : Key) (v : Version) :
    (s.holdSlot n k v).slots = s.slots.set n { state := .held, key := k, version := v } := rfl
@[simp] theorem State.releaseEntry_tracker (s : State) (i : Fin 8) :
    (s.releaseEntry i).tracker = s.tracker.free i := rfl
@[simp] theorem State.releaseEntry_engine (s : State) (i : Fin 8) :
    (s.releaseEntry i).engine = s.engine.retest := rfl
@[simp] theorem State.startEvent_port (s : State) : s.startEvent.port = { s.port with fresh := 0 } := rfl
@[simp] theorem State.startEvent_seen (s : State) : s.startEvent.seen = s.sampled := rfl
@[simp] theorem State.openUnheard_span (s : State) (w : Option Station) :
    (s.openUnheard w).span = { s.span with idleTimer := .held, tenure := .window w none none } := rfl
@[simp] theorem State.releaseIntruder_pins (s : State) (bs : List Byte) :
    (s.releaseIntruder bs).pins = { s.pins with spdSince := none } := rfl
@[simp] theorem State.advance_clock (s : State) (u : Time) : (s.advance u).clock = max s.clock u := rfl
@[simp] theorem State.waitHead_engine (s : State) (kind : CommandKind) :
    (s.waitHead kind).engine = { headStatus := .waiting, fenceWait := kind == .fence } := rfl
@[simp] theorem State.popOutbound_home (s : State) :
    s.popOutbound.home = { s.home with outbound := s.home.outbound.tail } := rfl
@[simp] theorem State.popInbound_home (s : State) :
    s.popInbound.home = { s.home with inbound := s.home.inbound.tail } := rfl
@[simp] theorem State.popInbound_engine (s : State) : s.popInbound.engine = s.engine.retest := rfl
@[simp] theorem State.finishHead_port (s : State) (c : Completion) :
    (s.finishHead c).port = { s.port.completeHead c with commands := s.port.commands.tail } := rfl
@[simp] theorem State.leaveHead_port (s : State) :
    s.leaveHead.port = { s.port with commands := s.port.commands.tail } := rfl

/-- Testing the head again twice is testing it again once (R140). -/
@[simp] theorem CommandEngine.retest_retest (e : CommandEngine) : e.retest.retest = e.retest := by
  obtain ⟨h, f⟩ := e
  cases h <;> rfl

/-- Testing the head again keeps the FENCE wait (R138). -/
@[simp] theorem CommandEngine.retest_fenceWait (e : CommandEngine) : e.retest.fenceWait = e.fenceWait := by
  obtain ⟨h, f⟩ := e
  cases h <;> rfl

end Sys2Proof.Machine
end

