-- ==== Sys2Proof/Laws/Events.lean ====
section
/-! SUPPORT. What the shared operations over events do, said once: an event at a station at rest, a follow-on step at
a ready station, the end of a pending entry, and what the longer operations leave as it was. -/

namespace Sys2Proof.Machine

/-! ### Events and follow-on steps -/

theorem State.ready_of_atRest {s : State} (h : s.atRest) : s.ready := by
  refine ⟨h.1, ?_⟩
  have := h.2
  simp only [State.quiescent, Bool.and_eq_true, Bool.not_eq_true'] at this
  exact this.1.1.1

/-- A quiescent station has nothing to settle. -/
theorem State.settle_of_quiescent {s : State} (h : s.quiescent = true) : s.settle = s := by
  simp [State.settle, Config.settleRounds, State.settleFor, h]

/-- With no limit reached, acting on the limits changes nothing. -/
theorem State.obeyLimits_of_none {s : State} (h : s.limitDue = false) : s.obeyLimits = s := by
  simp [State.obeyLimits, h]

/-- An event from outside at a station at rest: the event itself, and the REQ line follows. -/
theorem State.onEvent_of_atRest {s : State} (h : s.atRest) (f : State → State) :
    s.onEvent f = (f s.startEvent).refreshReq := by
  simp [State.onEvent, h.1, State.settle_of_quiescent h.2]

/-- A follow-on step at a ready station. -/
theorem State.followOn_of_ready {s : State} (h : s.ready) (f : State → State) :
    s.followOn f = (f s).refreshReq := by
  simp [State.followOn, h.1, State.obeyLimits_of_none h.2]

/-- A limit row at a live station. -/
theorem State.limitRow_of_live {s : State} (h : s.live = true) (f : State → State) :
    s.limitRow f = (f s).refreshReq := by
  simp [State.limitRow, h]

/-- A station in reset takes part in no event but those of RESET# and SPD±. -/
theorem State.onEvent_of_reset {s : State} (h : s.live = false) (f : State → State) : s.onEvent f = s := by
  simp [State.onEvent, h]

/-- A limit row in reset is no event. -/
theorem State.limitRow_of_reset {s : State} (h : s.live = false) (f : State → State) : s.limitRow f = s := by
  simp [State.limitRow, h]

/-- A follow-on step in reset is no event. -/
theorem State.followOn_of_reset {s : State} (h : s.live = false) (f : State → State) : s.followOn f = s := by
  simp [State.followOn, h]

/-- Settling keeps what every round keeps. -/
theorem State.settleFor_induct {P : State → Prop} (hround : ∀ s, P s → P s.settleRound) (n : Nat) :
    ∀ s, P s → P (s.settleFor n) := by
  induction n with
  | zero => exact fun _ h => h
  | succ n ih =>
    intro s h
    simp only [State.settleFor]
    split
    · exact h
    · exact ih _ (hround s h)

/-- A fold of steps keeps what each of them keeps. -/
theorem foldl_induct {α β : Type} {P : β → Prop} {f : β → α → β} (hf : ∀ b a, P b → P (f b a)) :
    ∀ (xs : List α) (b : β), P b → P (xs.foldl f b)
  | [], _, h => h
  | x :: xs, b, h => foldl_induct hf xs (f b x) (hf b x h)

/-! ### The head of the command queue -/

/-- A command that passes steps 1 to 7 of R139 is served. -/
theorem State.atHead_of_reachesStep8 {s : State} {kind : CommandKind} {c : CommandRecord}
    (h : s.reachesStep8 kind c) (serve : CommandRecord → State → State) :
    s.atHead kind serve = serve c s := by
  obtain ⟨⟨-, hc, hk⟩, hf, hm, hb, hd⟩ := h
  simp [State.atHead, State.head, State.testHead, CommandRecord.command, hc, hk, hf, hm, hb, hd]

/-- The fields of the state after a command completed at the head (R138, R155). -/
theorem State.finishHead_eq (s : State) (c : Completion) :
    s.finishHead c =
      { s with
        port := { s.port with
          commands := s.port.commands.tail
          completions := s.port.completions ++ [.completion c]
          outstanding := s.port.outstanding - 1
          fresh := 0 }
        engine :=
          { headStatus := if s.port.commands.tail.isEmpty then .none else .testing
            fenceWait := false } } := rfl

/-! ### The end of a pending entry -/

/-- An entry in use that completes without a record. -/
theorem State.failEntry_of_some {s : State} {i : Fin 8} {e : PendingEntry} (h : s.tracker.entries[i] = some e)
    (o : CmdOutcome) (v : Version) : s.failEntry i o v = s.withEntryEnded i e o v := by
  simp only [State.failEntry, h, State.endFetch, State.emptyEntrySlot]
  cases hs : e.slot <;> by_cases hk : e.kind = .fetch <;>
    simp [State.withEntryEnded, State.releaseEntry, State.complete, State.emptySlot, State.retest,
      HostPort.complete, RequestTracker.free, hs, hk]

theorem State.failEntry_of_none {s : State} {i : Fin 8} (h : s.tracker.entries[i] = none)
    (o : CmdOutcome) (v : Version) : s.failEntry i o v = s := by
  simp [State.failEntry, h]

/-- What the end of an entry without a record leaves as it was. -/
theorem State.failEntry_frame (s : State) (i : Fin 8) (o : CmdOutcome) (v : Version) :
    let t := s.failEntry i o v
    t.clock = s.clock ∧ t.pins = s.pins ∧ t.span = s.span ∧ t.formation = s.formation ∧ t.home = s.home ∧
      t.watch = s.watch ∧ t.pending = s.pending ∧ t.port.commands = s.port.commands ∧
      t.tracker.generations = s.tracker.generations ∧ t.tracker.nextIndex = s.tracker.nextIndex ∧
      t.seen = s.seen ∧ t.port.putRefused = s.port.putRefused ∧ t.port.torn = s.port.torn ∧
      t.port.sdo = s.port.sdo := by
  cases h : s.tracker.entries[i] with
  | none => simp [State.failEntry_of_none h]
  | some e => simp [State.failEntry_of_some h, State.withEntryEnded]

@[simp] theorem State.failEntry_clock (s : State) (i : Fin 8) (o : CmdOutcome) (v : Version) :
    (s.failEntry i o v).clock = s.clock := (s.failEntry_frame i o v).1
@[simp] theorem State.failEntry_pins (s : State) (i : Fin 8) (o : CmdOutcome) (v : Version) :
    (s.failEntry i o v).pins = s.pins := (s.failEntry_frame i o v).2.1
@[simp] theorem State.failEntry_span (s : State) (i : Fin 8) (o : CmdOutcome) (v : Version) :
    (s.failEntry i o v).span = s.span := (s.failEntry_frame i o v).2.2.1
@[simp] theorem State.failEntry_formation (s : State) (i : Fin 8) (o : CmdOutcome) (v : Version) :
    (s.failEntry i o v).formation = s.formation := (s.failEntry_frame i o v).2.2.2.1
@[simp] theorem State.failEntry_home (s : State) (i : Fin 8) (o : CmdOutcome) (v : Version) :
    (s.failEntry i o v).home = s.home := (s.failEntry_frame i o v).2.2.2.2.1
@[simp] theorem State.failEntry_watch (s : State) (i : Fin 8) (o : CmdOutcome) (v : Version) :
    (s.failEntry i o v).watch = s.watch := (s.failEntry_frame i o v).2.2.2.2.2.1
@[simp] theorem State.failEntry_pending (s : State) (i : Fin 8) (o : CmdOutcome) (v : Version) :
    (s.failEntry i o v).pending = s.pending := (s.failEntry_frame i o v).2.2.2.2.2.2.1
@[simp] theorem State.failEntry_commands (s : State) (i : Fin 8) (o : CmdOutcome) (v : Version) :
    (s.failEntry i o v).port.commands = s.port.commands := (s.failEntry_frame i o v).2.2.2.2.2.2.2.1

/-- What the end of several entries leaves as it was. -/
theorem State.failAll_frame (is : List (Fin 8)) (o : CmdOutcome) : ∀ s : State,
    let t := s.failAll is o
    t.clock = s.clock ∧ t.pins = s.pins ∧ t.span = s.span ∧ t.formation = s.formation ∧ t.home = s.home ∧
      t.watch = s.watch ∧ t.pending = s.pending ∧ t.port.commands = s.port.commands ∧
      t.tracker.generations = s.tracker.generations ∧ t.tracker.nextIndex = s.tracker.nextIndex ∧
      t.seen = s.seen ∧ t.port.putRefused = s.port.putRefused ∧ t.port.torn = s.port.torn ∧
      t.port.sdo = s.port.sdo := by
  induction is with
  | nil => intro s; simp [State.failAll]
  | cons i is ih =>
    intro s
    have h1 := s.failEntry_frame i o 0
    have h2 := ih (s.failEntry i o 0)
    simp only [State.failAll, List.foldl_cons] at h1 h2 ⊢
    obtain ⟨a1, a2, a3, a4, a5, a6, a7, a8, a9, a10, a11, a12, a13, a14⟩ := h1
    obtain ⟨b1, b2, b3, b4, b5, b6, b7, b8, b9, b10, b11, b12, b13, b14⟩ := h2
    exact ⟨b1.trans a1, b2.trans a2, b3.trans a3, b4.trans a4, b5.trans a5, b6.trans a6, b7.trans a7,
      b8.trans a8, b9.trans a9, b10.trans a10, b11.trans a11, b12.trans a12, b13.trans a13, b14.trans a14⟩

/-- What evidence of life or a silence leaves as it was: everything but the member table (R126). -/
theorem State.evidence_frame (s : State) (st : Station) :
    s.evidence st = { s with formation := { s.formation with members := (s.evidence st).formation.members } } := by
  simp only [State.evidence, FormationController.modify]
  split <;> rfl

theorem State.silence_frame (s : State) (st : Station) :
    s.silence st = { s with formation := { s.formation with members := (s.silence st).formation.members } } := by
  simp only [State.silence, FormationController.modify]
  split <;> rfl

/-! ### The end of a frame, and SPD± driven inside a window -/

/-- What judging a frame writes: the response lines and the held place (R104). -/
theorem State.judgeFrame_frame (s : State) (winner : Option Station) (own : Option OwnFrame) (bs : List Byte) :
    let t := s.judgeFrame winner own bs
    t = { s with
      span := { s.span with ack := t.span.ack, rty := t.span.rty, chk := t.span.chk }
      home := { s.home with heldPlace := t.home.heldPlace } } := by
  simp only [State.judgeFrame, State.answerFrame]
  repeat' split
  all_goals rfl

/-- What following SPD± past the close of a window writes (notes/assumptions/29.md). -/
theorem State.followIntruder_frame (s : State) (x : Intrusion) :
    let t := s.followIntruder x
    t = { s with
      pins := { s.pins with spdReleased := t.pins.spdReleased }
      span := { s.span with
        idleTimer := t.span.idleTimer
        tenure := t.span.tenure
        ack := t.span.ack
        rty := t.span.rty
        chk := t.span.chk }
      home := { s.home with heldPlace := t.home.heldPlace } } := by
  match x with
  | .absent => rfl
  | .driven _ => rfl
  | .released _ none => rfl
  | .released u (some bs) =>
    have h := State.judgeFrame_frame { s with pins := { s.pins with spdReleased := u } } none none bs
    simp only [State.followIntruder]
    rw [h]

@[simp] theorem State.followIntruder_absent (s : State) : s.followIntruder .absent = s := rfl

/-! ### SPI transactions -/

/-- A transaction of a code that R167 does not list shifts out zero bytes. -/
theorem State.serveCode_unknown (s : State) (spi : Reading) (code : Option Byte) (received : List Byte)
    (h : ∀ c : Byte, code = some c → c.toNat ∉ [1, 2, 3, 4]) :
    s.serveCode spi code received =
      s.shiftOut spi.fell [] (if code = none then 0 else received.length) := by
  cases code with
  | none => rfl
  | some c =>
    have h := h c rfl
    have ne : ∀ n ∈ [1, 2, 3, 4], c ≠ BitVec.ofNat 8 n := by
      rintro n hn rfl
      exact h (by revert n; decide)
    simp [State.serveCode, ne 1 (by decide), ne 2 (by decide), ne 3 (by decide), ne 4 (by decide)]

/-! ### The REQ line and the candidates -/

/-- The REQ line is no candidate's business: the frame that would be chosen stays. -/
@[simp] theorem State.chooseFrame_refreshReq (s : State) : s.refreshReq.chooseFrame = s.chooseFrame := rfl

@[simp] theorem State.chooseFrame_startEvent (s : State) : s.startEvent.chooseFrame = s.chooseFrame := rfl

/-- What the REQ line follows (R102). -/
theorem State.refreshReq_req (s : State) :
    s.refreshReq.span.req =
      (s.live && s.span.synced && s.chooseFrame.isSome && (s.span.req || !s.idleHold)) := rfl

/-! ### Codes -/

/-- A frame kind's code names it (R114). -/
@[simp] theorem FrameKind.ofCode_code (k : FrameKind) : FrameKind.ofCode k.code = some k := by
  cases k <;> rfl

/-- An op's code names it (R115). -/
@[simp] theorem Op.ofCode_code (o : Op) : Op.ofCode o.code = some o := by
  cases o <;> rfl

/-- A command's code names it (R141). -/
@[simp] theorem CommandKind.ofCode_code (k : CommandKind) : CommandKind.ofCode k.code = some k := by
  cases k <;> rfl

/-- Outcome codes are distinct (R156). -/
theorem CmdOutcome.code_injective {a b : CmdOutcome} (h : a.code = b.code) : a = b := by
  revert h
  cases a <;> cases b <;> decide

end Sys2Proof.Machine
end

