-- ==== Sys2Proof/Laws/Blocks.lean ====
section
/-! SUPPORT. What the searches and updates of the tables do: the pending table, the Copy Table, the watch table, the
member table, and the open orders. -/

namespace Sys2Proof.Machine

/-! ### Open orders -/

theorem arrangeOnto_perm {α : Type} (acc : List α) (codes : List Nat) (xs : List α) :
    (arrangeOnto acc codes xs).Perm (acc ++ xs) := by
  induction xs generalizing acc codes with
  | nil => simp [arrangeOnto]
  | cons x rest ih =>
    refine (ih _ _).trans ?_
    have h : (acc.insertIdx (acc.length - codes.headD 0 % (acc.length + 1)) x).Perm (x :: acc) :=
      List.perm_insertIdx _ _ (by omega)
    exact (h.append_right rest).trans List.perm_middle.symm

/-- Whatever the codes, an arrangement holds the same records (R171). -/
theorem arrange_perm {α : Type} (codes : List Nat) (xs : List α) : (arrange codes xs).Perm xs := by
  simpa [arrange] using arrangeOnto_perm [] codes xs

/-! ### The pending table -/

theorem mem_allEntries (i : Fin 8) : i ∈ allEntries := by
  revert i
  decide

theorem RequestTracker.holds_iff (t : RequestTracker) (p : PendingEntry → Bool) (i : Fin 8) :
    t.holds p i = true ↔ ∃ e, t.entries[i] = some e ∧ p e = true := by
  unfold RequestTracker.holds
  cases t.entries[i] <;> simp

/-- The indices in use whose entry satisfies `p`. -/
theorem RequestTracker.mem_indices (t : RequestTracker) (p : PendingEntry → Bool) (i : Fin 8) :
    i ∈ t.indices p ↔ ∃ e, t.entries[i] = some e ∧ p e = true := by
  simp [RequestTracker.indices, mem_allEntries, RequestTracker.holds_iff]

theorem RequestTracker.indices_nodup (t : RequestTracker) (p : PendingEntry → Bool) : (t.indices p).Nodup :=
  List.Nodup.filter _ (by decide)

/-- A key is pending when an entry in use has it (R77, R144). -/
theorem RequestTracker.keyPending_iff (t : RequestTracker) (k : Key) :
    t.keyPending k = true ↔ ∃ (i : Fin 8) (e : PendingEntry), t.entries[i] = some e ∧ e.key = k := by
  simp [RequestTracker.keyPending, mem_allEntries, RequestTracker.holds_iff]

/-- A slot is busy when an entry in use names it (R60). -/
theorem RequestTracker.slotBusy_iff (t : RequestTracker) (n : Fin 4) :
    t.slotBusy n = true ↔ ∃ (i : Fin 8) (e : PendingEntry), t.entries[i] = some e ∧ e.slot = some n := by
  simp [RequestTracker.slotBusy, mem_allEntries, RequestTracker.holds_iff]

/-- The table is empty when no entry is in use (R151). -/
theorem RequestTracker.isEmpty_iff (t : RequestTracker) :
    t.isEmpty = true ↔ ∀ i : Fin 8, t.entries[i] = none := by
  unfold RequestTracker.isEmpty
  rw [Bool.not_eq_true', List.any_eq_false]
  refine ⟨fun h i => ?_, fun h i _ => ?_⟩
  · cases hi : t.entries[i] with
    | none => rfl
    | some e => exact absurd ((t.holds_iff _ i).2 ⟨e, hi, rfl⟩) (h i (mem_allEntries i))
  · intro hh
    obtain ⟨e, he, -⟩ := (t.holds_iff _ i).1 hh
    rw [h i] at he
    exact nomatch he

/-- A search of the pending table that finds an index found an entry in use there. -/
theorem RequestTracker.find_holds {t : RequestTracker} {p : PendingEntry → Bool} {i : Fin 8}
    (h : allEntries.find? (t.holds p) = some i) : ∃ e, t.entries[i] = some e ∧ p e = true :=
  (t.holds_iff p i).1 (List.find?_some h)

/-- A search of the pending table that finds nothing leaves no entry that satisfies `p`. -/
theorem RequestTracker.find_holds_none {t : RequestTracker} {p : PendingEntry → Bool}
    (h : allEntries.find? (t.holds p) = none) (i : Fin 8) (e : PendingEntry) (he : t.entries[i] = some e) :
    p e = false := by
  by_contra hp
  exact (List.find?_eq_none.1 h i (mem_allEntries i)) ((t.holds_iff p i).2 ⟨e, he, by simpa using hp⟩)

/-- The only index whose entry satisfies `p` is the one a search finds. -/
theorem RequestTracker.find_holds_unique {t : RequestTracker} {p : PendingEntry → Bool} {i : Fin 8}
    {e : PendingEntry} (he : t.entries[i] = some e) (hp : p e = true)
    (hu : ∀ (j : Fin 8) (x : PendingEntry), t.entries[j] = some x → p x = true → j = i) :
    allEntries.find? (t.holds p) = some i := by
  cases h : allEntries.find? (t.holds p) with
  | none => rw [RequestTracker.find_holds_none h i e he] at hp; exact nomatch hp
  | some j =>
    obtain ⟨x, hx, hpx⟩ := RequestTracker.find_holds h
    rw [hu j x hx hpx]

/-! ### The Copy Table -/

theorem mem_allWays (w : Fin 4) : w ∈ allWays := by
  revert w
  decide

/-- A way after a touch (R41). -/
theorem CopyGroup.getElem_touch (g : CopyGroup) (w v : Fin 4) :
    (g.touch w)[v] =
      if v = w then { g[v] with age := 0 }
      else if g[v].occupied = true ∧ g[v].age < (if g[w].occupied = true then g[w].age else 4) then
        { g[v] with age := g[v].age + 1 }
      else g[v] := by
  simp [CopyGroup.touch, Fin.ext_iff]

/-- A way after another or the same was freed (R42). -/
theorem CopyGroup.getElem_release (g : CopyGroup) (w v : Fin 4) :
    (g.release w)[v] =
      if v = w then .cleared
      else if g[v].occupied = true ∧ g[w].age < g[v].age then { g[v] with age := g[v].age - 1 }
      else g[v] := by
  simp [CopyGroup.release, Fin.ext_iff]

/-- The way that a search for a key finds holds that key (R40). -/
theorem CopyGroup.wayOf_spec {g : CopyGroup} {k : Key} {w : Fin 4} (h : g.wayOf k = some w) :
    g[w].occupied = true ∧ g[w].key = k := by
  simpa using List.find?_some h

/-- With no way found, no way holds the key. -/
theorem CopyGroup.wayOf_none {g : CopyGroup} {k : Key} (h : g.wayOf k = none) (w : Fin 4)
    (ho : g[w].occupied = true) : g[w].key ≠ k := by
  have := List.find?_eq_none.1 h w (mem_allWays w)
  simp only [Bool.and_eq_true, beq_iff_eq, not_and] at this
  exact this ho

/-- The way a miss claims in a group with a FREE way is one of these (R44). -/
theorem CopyGroup.firstFree_spec {g : CopyGroup} {w : Fin 4} (h : g.firstFree = some w) : g[w].state = .free := by
  simpa using List.find?_some h

/-! ### The watch table -/

theorem mem_allWatches (i : Fin 32) : i ∈ allWatches := by
  revert i
  decide

/-- The entry that a search for a key finds is in use for that key (R157). -/
theorem WatchUnit.entryOf_spec {w : WatchUnit} {k : Key} {i : Fin 32} (h : w.entryOf k = some i) :
    w.entries[i].inUse = true ∧ w.entries[i].key = k := by
  simpa using List.find?_some h

theorem WatchUnit.entryOf_none {w : WatchUnit} {k : Key} (h : w.entryOf k = none) (i : Fin 32)
    (hi : w.entries[i].inUse = true) : w.entries[i].key ≠ k := by
  have := List.find?_eq_none.1 h i (mem_allWatches i)
  simp only [Bool.and_eq_true, beq_iff_eq, not_and] at this
  exact this hi

/-- Everything that firing an entry can do (R161 to R163). -/
theorem WatchUnit.fire_cases (w : WatchUnit) (i : Fin 32) (f : Firing) :
    (w.entries[i].state = .armed ∧
      w.fire i f = { entries := w.entries.set i { w.entries[i] with state := .fired, firing := f }
                     fired := w.fired ++ [i] }) ∨
    (w.entries[i].state = .fired ∧
      w.fire i f = { w with entries := w.entries.set i { w.entries[i] with firing := f } }) ∨
    (w.entries[i].state = .free ∧ w.fire i f = w) := by
  unfold WatchUnit.fire
  cases h : w.entries[i].state
  · exact .inr (.inr ⟨rfl, rfl⟩)
  · exact .inl ⟨rfl, rfl⟩
  · exact .inr (.inl ⟨rfl, rfl⟩)

/-! ### The member table -/

/-- Changing one station's entry keeps the length of the table. -/
@[simp] theorem FormationController.modify_length (f : FormationController) (st : Station) (g : Member → Member) :
    (f.modify st g).members.length = f.members.length := by
  simp [FormationController.modify]

/-- A member found by its number has it. -/
theorem FormationController.find_spec {f : FormationController} {st : Station} {m : Member}
    (h : f.find st = some m) : m ∈ f.members ∧ m.station = st :=
  ⟨List.mem_of_find?_eq_some h, by simpa using List.find?_some h⟩

/-- The home of a key is a member whose rank is the key modulo the member count (R4). -/
theorem FormationController.homeOf_spec {f : FormationController} {k : Key} {m : Member}
    (h : f.homeOf k = some m) : m ∈ f.members ∧ m.rank = k.toNat % f.members.length :=
  ⟨List.mem_of_find?_eq_some h, by simpa using List.find?_some h⟩

end Sys2Proof.Machine
end

