-- ==== Sys2Proof/Laws/Store.lean ====
section
/-! SUPPORT. The home store's canonical form: every operation on it keeps it, and the reset state has it. -/

namespace Sys2Proof.Machine

theorem storeSorted_mono {low high : Nat} {m : HomeStore} (hle : low ≤ high)
    (h : storeSorted high m = true) : storeSorted low m = true := by
  cases m with
  | nil => rfl
  | cons x rest =>
    obtain ⟨a, r⟩ := x
    simp only [storeSorted, Bool.and_eq_true, decide_eq_true_eq] at h ⊢
    exact ⟨⟨hle.trans h.1.1, h.1.2⟩, h.2⟩

theorem storeSet_sorted {low k : Nat} {m : HomeStore} {r : HomeRecord} (h : storeSorted low m = true)
    (hk : low ≤ k) : storeSorted low (storeSet m k r) = true := by
  induction m generalizing low with
  | nil =>
    by_cases hr : r = .cleared <;> simp [storeSet, storeSorted, hr, hk]
  | cons x rest ih =>
    obtain ⟨a, y⟩ := x
    simp only [storeSorted, Bool.and_eq_true, decide_eq_true_eq] at h
    obtain ⟨⟨hla, hy⟩, hrest⟩ := h
    simp only [storeSet]
    split
    · split
      · simp [storeSorted, hla, hy, hrest]
      · simp [storeSorted, *]
    · split
      · subst_vars
        split
        · exact storeSorted_mono (by omega) hrest
        · simp [storeSorted, *]
      · have : a + 1 ≤ k := by omega
        simp [storeSorted, hla, hy, ih hrest this]

/-- Writing a home record keeps the canonical form. -/
theorem storeSet_wf {m : HomeStore} (h : storeWf m = true) (k : Nat) (r : HomeRecord) :
    storeWf (storeSet m k r) = true :=
  storeSet_sorted h (Nat.zero_le k)

/-- Committing a record keeps the canonical form. -/
theorem storeCommit_wf {m : HomeStore} (h : storeWf m = true) (k : Key) (r : TableRecord) :
    storeWf (storeCommit m k r) = true :=
  storeSet_wf h _ _

/-- Setting or clearing a mark keeps the canonical form. -/
theorem storeMark_wf {m : HomeStore} (h : storeWf m = true) (k : Key) (b : Bool) :
    storeWf (storeMark m k b) = true :=
  storeSet_wf h _ _

theorem storeClearMarks_sorted {low : Nat} {m : HomeStore} (h : storeSorted low m = true) :
    storeSorted low (storeClearMarks m) = true := by
  induction m generalizing low with
  | nil => rfl
  | cons x rest ih =>
    obtain ⟨a, y⟩ := x
    simp only [storeSorted, Bool.and_eq_true, decide_eq_true_eq] at h
    obtain ⟨⟨hla, -⟩, hrest⟩ := h
    simp only [storeClearMarks]
    split
    · exact storeSorted_mono (by omega) (ih hrest)
    · rename_i hc
      have : ({ y with publishing := false } : HomeRecord) ≠ .cleared := fun e =>
        hc (congrArg HomeRecord.committed e)
      simp [storeSorted, hla, ih hrest, this]

/-- Clearing every mark keeps the canonical form. -/
theorem storeClearMarks_wf {m : HomeStore} (h : storeWf m = true) : storeWf (storeClearMarks m) = true :=
  storeClearMarks_sorted h

/-- The home store of the reset state has the canonical form. -/
theorem reset_store_wf : storeWf State.reset.home.store = true := rfl

end Sys2Proof.Machine
end

