-- ==== Sys2Proof/WellFormed.lean ====
section
/-! DEFINITION. Which commands are well formed. Every operand is already held to its range by its type; the checks
left are that the moments of an SPI transaction stand in their order, and that SPI_UNKNOWN_CODE names a code that is
not one of the four of R167. -/

namespace Sys2Proof

/-- The transaction codes that R167 lists. -/
def knownSpiCode (code : Byte) : Bool :=
  code == 1 || code == 2 || code == 3 || code == 4

/-- A command is well formed when it can name an event of the table. -/
def Instr.wellFormed : Instr → Bool
  | .putShort spi _ => decide (spi.fell ≤ spi.rose)
  | .putLong spi _ => decide (spi.fell ≤ spi.rose)
  | .pop spi _ code => decide (spi.fell ≤ code) && decide (code ≤ spi.rose)
  | .stat spi _ => decide (spi.fell ≤ spi.code) && decide (spi.code ≤ spi.rose)
  | .spiUnknownCode spi code _ =>
    decide (spi.fell ≤ spi.code) && decide (spi.code ≤ spi.rose) && !code.any knownSpiCode
  | _ => true

end Sys2Proof
end

