-- ==== Sys2Proof/Tests/Slice0.lean ====
section
/-! SUPPORT. The tests: one step on a small state at a time, with the expected value from the rule or the worked
example named beside it; and for every statement with hypotheses, states and operands that meet them. -/

namespace Sys2Proof.Tests

open Sys2Proof Sys2Proof.Machine

-- One test at a time: each waits for the kernel, and many waiting at once hold much memory.
set_option Elab.async false

/-! ## Small states -/

/-- A value with the given first word. -/
def v (w : Word) : Value := #v[w, 0, 0, 0, 0, 0, 0, 0]

/-- The record present with the given version and first word. -/
def present (version : Version) (w : Word) : TableRecord := { present := true, version := version, value := v w }

/-- Station 1, synced and a MEMBER of epoch 5 with station 2 alone; key k is homed at 1 for even k and at 2 for odd
k (R4). The time is 1 ms and the Span has been idle past its limit. -/
def station : State :=
  { State.reset with
    clock := 50000
    pins := { resetLow := none, station := 1, spdSince := none, spdReleased := 1000, resetRose := 0 }
    span := { State.reset.span with synced := true, lastWinner := some 15, idleTimer := .reached }
    formation := { State.reset.formation with state := .member, epoch := 5, members := membersOf 0x0006 } }

/-- The same station in another station state, without a member table. -/
def forming (st : StationState) : State :=
  { station with formation := { State.reset.formation with state := st, epoch := 5, proposal := 5 } }

/-- A long command record of a kind, with hostTag 9, slot 0 and first value word 3. -/
def command (kind : CommandKind) (key : Key) : CommandRecord :=
  { long := true, kind := kind.code, hostTag := 9, key := key, slot := 0, flags := 0, wordIndex := 0,
    zeroByte := 0, expected := 0, value := v 3 }

/-- The station with the record alone in its command queue. -/
def withHead (s : State) (c : CommandRecord) : State :=
  { s with
    port := { s.port with commands := [c], outstanding := s.port.outstanding + 1 }
    engine := { headStatus := .testing, fenceWait := false } }

/-- A FETCH entry of a READ of key 3, QUEUED. -/
def fetchEntry : PendingEntry :=
  { kind := .fetch, key := 3, home := 2, command := .read, hostTag := 8, slot := none, update := none, tag := 8,
    state := .queued, attempts := 0, retries := 0, readyTime := 40000, deadline := none, lastVoided := false }

/-- The station with one pending entry, at index 0. -/
def withEntry (s : State) (e : PendingEntry) : State :=
  { s with
    tracker :=
      { entries := s.tracker.entries.set 0 (some e)
        generations := s.tracker.generations.set 0 1
        nextIndex := 1 }
    port := { s.port with outstanding := s.port.outstanding + 1 } }

/-- A copy of a key, at age 0 in way 0 of its group. -/
def withCopy (s : State) (st : CopyState) (k : Key) (r : TableRecord) : State :=
  { s with
    copies := s.copies.set (groupOf k)
      (s.copies[groupOf k].set 0 { state := st, key := k, record := r, age := 0 }) }

/-- A slot of the station. -/
def withSlot (s : State) (n : Fin 4) (x : Slot) : State :=
  { s with slots := s.slots.set n x }

/-- The home store of the station. -/
def withStore (s : State) (m : HomeStore) : State :=
  { s with home := { s.home with store := m } }

/-- An entry of the watch table, FIRED entries on the fired list. -/
def withWatch (s : State) (i : Fin 32) (w : WatchEntry) : State :=
  { s with
    watch :=
      { entries := s.watch.entries.set i w
        fired := if w.state = .fired then s.watch.fired ++ [i] else s.watch.fired } }

/-- The window of a frame that another station sent is open. -/
def closing (s : State) (f : Frame) : State :=
  { s with
    pins := { s.pins with spdReleased := s.clock }
    span := { s.span with
      idleTimer := .held
      tenure := .window (if s.span.synced then some f.sender else none) none (some f.bytes) } }

/-- The window of a frame of the station's own is open. -/
def sending (s : State) (own : OwnFrame) : State :=
  { s with
    pins := { s.pins with spdReleased := s.clock }
    span := { s.span with idleTimer := .held, tenure := .window (some 1) (some own) (some own.frame.bytes) } }

/-- An entry of the member table that has shown no sign of life yet. -/
def member (st : Station) (rank : Nat) (health : Health) (silence : Nat) : Member :=
  { station := st, rank := rank, health := health, silence := silence, evidenceAt := none }

/-- The state after a command, or the state before where it stops. -/
def after (c : Instr) (s : State) : State :=
  match exec c s with
  | .next t => t
  | .fault _ => s
  | .refused _ => s

/-- A transaction of which only the moment of its end counts. -/
def spi (t : Time) : Transaction := { fell := t, rose := t }

/-- The same with its code byte complete at that moment. -/
def reading (t : Time) : Reading := { fell := t, rose := t, code := t }

/-! ## The premises as Booleans -/

theorem atRest_iff (s : State) : s.atRest ↔ (s.live && s.quiescent) = true := by
  simp [State.atRest]

/-- `State.closingFrame` as a Boolean. -/
theorem closingFrame_iff (s : State) (winner : Option Station) (own : Option OwnFrame) (f : Frame) :
    s.closingFrame winner own f ↔
      ((s.live && s.quiescent) && decide (s.span.tenure = .window winner own (some f.bytes)) &&
        decide (f.long = false → f.value = zeroValue) && !s.home.heldPlace && !s.span.chk &&
        decide (s.span.intruder = .absent)) = true := by
  simp [State.closingFrame, atRest_iff, and_assoc]
  intros
  cases f.long <;> simp

theorem closing_iff (s : State) (winner : Option Station) (f : Frame) :
    s.closingWindow winner f ↔
      ((s.live && s.quiescent) && decide (s.span.tenure = .window winner none (some f.bytes)) &&
        decide (f.long = false → f.value = zeroValue) && !s.home.heldPlace && !s.span.chk &&
        decide (s.span.intruder = .absent)) = true :=
  closingFrame_iff s winner none f

theorem ready_iff (s : State) : s.ready ↔ (s.live && !s.limitDue) = true := by
  simp [State.ready]

/-- `State.atHeadOf` as a Boolean. -/
def atHead (s : State) (kind : CommandKind) (c : CommandRecord) : Bool :=
  s.live && !s.limitDue && decide (s.port.commands.head? = some c) && decide (CommandKind.ofCode c.kind = some kind)

theorem atHeadOf_iff (s : State) (kind : CommandKind) (c : CommandRecord) :
    s.atHeadOf kind c ↔ atHead s kind c = true := by
  simp [State.atHeadOf, State.ready, atHead, and_assoc]

/-- `State.reachesStep8` as a Boolean. -/
def reaches (s : State) (kind : CommandKind) (c : CommandRecord) : Bool :=
  atHead s kind c && decide (formError kind c = none) && decide (s.formation.state = .member) &&
    !s.headBlocked kind c && !s.homeIsDown kind c

theorem reachesStep8_iff (s : State) (kind : CommandKind) (c : CommandRecord) :
    s.reachesStep8 kind c ↔ reaches s kind c = true := by
  simp [State.reachesStep8, atHeadOf_iff, reaches, and_assoc]

/-! ## Well-formedness, decoding and bytes -/

/-- SPI_UNKNOWN_CODE with one of the four codes of R167 is refused. -/
theorem test_wellFormed_refuses_known_codes :
    ∀ code ∈ [1, 2, 3, 4], (Instr.spiUnknownCode (reading 0) (some code) []).wellFormed = false := by decide

/-- A transaction whose moments are out of order is refused. -/
theorem test_wellFormed_refuses_disorder :
    (Instr.putShort ⟨1, 0⟩ []).wellFormed = false ∧ (Instr.putLong ⟨1, 0⟩ []).wellFormed = false ∧
      (Instr.pop ⟨1, 3⟩ 44 0).wellFormed = false ∧ (Instr.pop ⟨1, 3⟩ 44 4).wellFormed = false ∧
      (Instr.stat ⟨⟨1, 3⟩, 0⟩ 16).wellFormed = false ∧ (Instr.stat ⟨⟨1, 3⟩, 4⟩ 16).wellFormed = false ∧
      (Instr.spiUnknownCode ⟨⟨1, 3⟩, 4⟩ none []).wellFormed = false := by decide

/-- Any other code, a transaction cut short in its code byte, and moments in order are well formed. -/
theorem test_wellFormed_accepts :
    (Instr.spiUnknownCode (reading 0) (some 0) []).wellFormed = true ∧
      (Instr.spiUnknownCode (reading 0) (some 5) [7]).wellFormed = true ∧
      (Instr.spiUnknownCode (reading 0) none []).wellFormed = true ∧ (Instr.pop ⟨1, 3⟩ 44 2).wellFormed = true ∧
      (Instr.stat ⟨⟨1, 3⟩, 2⟩ 16).wellFormed = true ∧ (Instr.read).wellFormed = true := by decide

/-- The table gives no row any bits. -/
theorem test_no_row_has_bits : decodeTableWord 8 1 = none ∧ decodeTableWord 96 1 = none := by decide

/-- The check value of R113: the nine bytes hex 31 to 39 give hex 4B37. -/
theorem test_crc_check_value : crc16 [0x31, 0x32, 0x33, 0x34, 0x35, 0x36, 0x37, 0x38, 0x39] = 0x4B37 := by
  decide +kernel

/-- A FETCH of key 3 from station 1 to station 2 with tag 8 in epoch 5, by the layout of R113: kind and sender,
target and flags, epoch, tag, key, aux, word, version. -/
theorem test_fetch_frame_body :
    (requestFrame 1 5 fetchEntry).body = [0x81, 0x20, 5, 8, 3, 0, 0, 0, 0, 0, 0, 0] := by decide +kernel

/-- A long command record by the layout of R174. -/
theorem test_command_record :
    CommandRecord.ofBytes true ([5, 9, 0x23, 0x01, 2, 6, 7, 0, 4, 3, 2, 1, 5] ++ List.replicate 31 0) =
      { long := true, kind := 5, hostTag := 9, key := 0x0123, slot := 2, flags := 6, wordIndex := 7,
        zeroByte := 0, expected := 0x01020304, value := v 5 } := by decide +kernel

/-- A notice record by the layout of R175: origin 2 in the high nibble of byte 3, present and value-valid below. -/
theorem test_notice_record :
    (Notice.bytes { reason := .changed, key := 0x0123, cookie := 0x4567, origin := 2, record := present 7 5 }).take 13 =
      [2, 0, 1, 0x23, 0x23, 0x01, 0x67, 0x45, 7, 0, 0, 0, 5] := by decide +kernel

/-! ## Steps and reset -/

/-- Hypotheses of `StepRunsFrontCommand` and `ExecKeepsPendingQueue`. -/
theorem witness_front_command :
    ({ station with pending := [.stat (reading 0) 0, .read] } : State).pending = .stat (reading 0) 0 :: [.read] ∧
      exec (.stat (reading 0) 0) station = .next (after (.stat (reading 0) 0) station) := ⟨rfl, rfl⟩

/-- RESET# low for 19 CLK cycles faults, for 20 it resets (Pins and Ratings). -/
theorem test_hardReset_release :
    exec (.hardResetRelease 50019 7) (after (.hardResetAssert 50000) station) = .fault .resetPulseTooShort ∧
      (after (.hardResetRelease 50020 7) (after (.hardResetAssert 50000) station)).pins.station = 7 ∧
      (after (.hardResetRelease 50020 7) (after (.hardResetAssert 50000) station)).formation.state = .listen :=
  ⟨rfl, by decide +kernel, by decide +kernel⟩

/-- Hypotheses of `ResetReleaseResetsEveryBlock`, at the shortest pulse. -/
theorem witness_reset_release :
    (after (.hardResetAssert 50000) station).pins.resetLow = some 50000 ∧
      50000 + 20 ≤ max (after (.hardResetAssert 50000) station).clock 50020 :=
  ⟨by decide +kernel, by decide +kernel⟩

/-- A frame of this station's own, and the state while it is on SPD±. -/
def ownFetch : OwnFrame := { source := .request 0 8, frame := requestFrame 1 5 fetchEntry }

def driving : State :=
  { withEntry station fetchEntry with
    pins := { station.pins with spdSince := some 50000 }
    span := { station.span with idleTimer := .held, tenure := .frame (some 1) (some ownFetch) } }

/-- RESET# falls while the station drives SPD±: the frame is cut short and every line released (R116). -/
theorem test_hardReset_assert :
    (after (.hardResetAssert 50010) driving).pins.spdSince = none ∧
      (after (.hardResetAssert 50010) driving).span.tenure = .quiet ∧
      (after (.hardResetAssert 50010) driving).tracker = driving.tracker := by decide +kernel

/-- While RESET# is low a PUT and a window's close are ignored, and SPD± that another station drives is followed (R116,
R167). -/
theorem test_in_reset :
    exec (.putShort (spi 50100) []) (after (.hardResetAssert 50010) station) =
        .next (after (.hardResetAssert 50010) station) ∧
      (after (.frameStart ⟨50100, true⟩) (after (.hardResetAssert 50010) station)).pins.spdSince = some 50100 ∧
      (after (.frameHeard [0]) (after (.frameStart ⟨50100, true⟩)
        (after (.hardResetAssert 50010) station))).pins.spdReleased = 50108 :=
  ⟨rfl, by decide +kernel, by decide +kernel⟩

/-- Hypotheses of `ResetAssertReleasesTheLines`, driving a frame and not, and in reset. -/
theorem witness_reset_assert :
    (after (.hardResetAssert 50010) station).live = false ∧ driving.live = true ∧ (∃ w own, driving.span.tenure = .frame w (some own)) ∧ station.live = true ∧
      ¬ ∃ w own, station.span.tenure = .frame w (some own) :=
  ⟨rfl, rfl, ⟨some 1, ownFetch, rfl⟩, rfl, by rintro ⟨w, own, h⟩; exact nomatch h⟩

/-- 200 µs after reset the station is synced, its ROLL queued and REQ asserted (R103, R119). -/
theorem test_idle_timeout :
    (after .idleTimeout State.reset).clock = 10000 ∧ (after .idleTimeout State.reset).span.lastWinner = some 15 ∧
      (after .idleTimeout State.reset).formation.roll = some 0 ∧ (after .idleTimeout State.reset).span.req = true := by
  decide +kernel

/-- Hypotheses of `RequestLineFollowsCandidates` and `IdleTimeoutSetsLastWinner`: a ROLL is a candidate, and the
idle timer no longer runs. -/
theorem witness_idle_timeout :
    State.reset.atRest ∧ State.reset.span.idleTimer = .running 0 ∧
      exec .idleTimeout State.reset = .next (after .idleTimeout State.reset) ∧
      (after .idleTimeout State.reset).live = true ∧ (after .idleTimeout State.reset).span.synced = true ∧
      (after .idleTimeout State.reset).formation.roll ≠ none ∧
      (after .idleTimeout State.reset).span.idleTimer = .reached := by
  rw [atRest_iff]
  exact ⟨by decide +kernel, by decide +kernel, rfl, by decide +kernel⟩

/-- The Span has been idle for 199.5 µs, and an entry of this station becomes ready. -/
def lateIdle : State :=
  { withEntry station { fetchEntry with readyTime := 50010 } with
    span := { station.span with idleTimer := .running 40025 } }

/-- A first candidate of the last microsecond before the idle limit does not assert REQ; at the limit REQ follows
(R102). -/
theorem test_req_hold :
    (after (.readyTime 0) lateIdle).clock = 50010 ∧ (after (.readyTime 0) lateIdle).span.req = false ∧
      (after .idleTimeout (after (.readyTime 0) lateIdle)).span.req = true := by decide +kernel

/-- Hypotheses of `RequestLineFollowsCandidates` in that microsecond, the line released and asserted. -/
theorem witness_req_hold :
    lateIdle.atRest ∧ lateIdle.live = true ∧ lateIdle.span.req = false ∧
      exec (.readyTime 0) lateIdle = .next (after (.readyTime 0) lateIdle) ∧
      (after (.readyTime 0) lateIdle).span.idleTimer = .running 40025 ∧ 40025 + 9950 ≤ lateIdle.clock ∧
      40025 + 9950 ≤ (after (.readyTime 0) lateIdle).clock ∧
      ({ lateIdle with span := { lateIdle.span with req := true } } : State).atRest := by
  simp only [atRest_iff]
  exact ⟨by decide +kernel, by decide +kernel, by decide +kernel, rfl, by decide +kernel⟩

/-! ## The host port -/

/-- The twelve bytes of a READ of key 3 with FRESH and hostTag 9 (R174). -/
def readBytes : List Byte := [1, 9, 3, 0, 0, 1, 0, 0, 0, 0, 0, 0]

/-- A PUT of code 1 with twelve bytes joins the command queue and is to be tested (R169, R138). -/
theorem test_putShort :
    (after (.putShort (spi 50100) readBytes) station).port.commands = [CommandRecord.ofBytes false readBytes] ∧
      (after (.putShort (spi 50100) readBytes) station).engine.headStatus = .testing ∧
      (after (.putShort (spi 50100) readBytes) station).port.outstanding = 1 := by decide +kernel

/-- A PUT of code 2 with 43 bytes is torn (R170). -/
theorem test_putLong_torn :
    (after (.putLong (spi 50100) (List.replicate 43 1)) station).port.torn = true ∧
      (after (.putLong (spi 50100) (List.replicate 43 1)) station).port.commands = [] := by decide +kernel

/-- A station whose command queue holds sixteen records that wait. -/
def crowded : State :=
  { forming .listen with
    port := { station.port with commands := List.replicate 16 (command .read 3), outstanding := 16 }
    engine := { headStatus := .waiting, fenceWait := false } }

/-- A PUT without room is refused (R169). -/
theorem test_put_refused :
    (after (.putShort (spi 50100) readBytes) crowded).port.putRefused = true ∧
      (after (.putShort (spi 50100) readBytes) crowded).port.commands = crowded.port.commands := by decide +kernel

/-- A PUT whose CS# fell before RESET# rose is ignored and returns nothing (R167). -/
theorem test_put_over_reset :
    let s : State := after (.hardResetRelease 50020 7) (after (.hardResetAssert 50000) station)
    (after (.putShort ⟨50019, 50100⟩ readBytes) s).port.commands = [] ∧
      (after (.putShort ⟨50019, 50100⟩ readBytes) s).port.sdo = [] ∧
      (after (.putShort ⟨50020, 50100⟩ readBytes) s).port.commands.length = 1 := by decide +kernel

/-- The station, which an event of 50000 found with another state since 40000. -/
def remembering : State :=
  { station with seen := [{ since := 40000, status := 0x0B, record := List.replicate 16 7 }] }

/-- What a station showed: as it stands, or as a sample says. -/
theorem showed_now (s : State) (t : Time) (h : s.clock ≤ t) :
    s.showed t { since := s.clock, status := s.statusByte, record := s.statusRecord } :=
  .inl ⟨h, rfl, rfl⟩

theorem showed_before : remembering.showed 49999 { since := 40000, status := 0x0B, record := List.replicate 16 7 } :=
  .inr ⟨by decide, by decide, [], [], rfl, by intro y h; exact nomatch h⟩

/-- The station out of reset since 50000. -/
def justReset : State := { station with pins := { station.pins with resetRose := 50000 } }

/-- Hypotheses of `PutIsTornAcceptedOrRefused`: 11 bytes, 12 with room, 12 without; a fall of CS# now, before the latest
event, and before RESET# rose. -/
theorem witness_put :
    (station.atRest ∧ (List.replicate 11 (0 : Byte)).length < 12 ∧ 12 ≤ readBytes.length ∧
      station.port.commands.length < 16 ∧ station.port.completions.length + station.port.outstanding < 32 ∧
      crowded.atRest ∧ ¬ crowded.port.commands.length < 16 ∧ station.pins.resetRose ≤ 50000 ∧
      remembering.atRest ∧ justReset.atRest ∧ 49999 < justReset.pins.resetRose) ∧
    (∃ x, station.showed 50000 x) ∧ ∃ x, remembering.showed 49999 x := by
  refine ⟨?_, ⟨_, showed_now _ _ (Nat.le_refl _)⟩, ⟨_, showed_before⟩⟩
  simp only [atRest_iff]
  decide +kernel

/-- A completion of an ADD of key hex 123. -/
def done : Completion :=
  { hostTag := 9, outcome := .ok, key := 0x0123, version := 7, present := true, value := some (v 5) }

def answered : State := { station with port := { station.port with completions := [.completion done] } }

/-- All 44 bytes of a POP take the record away; byte 3 has present and value-valid (R172, R175). -/
theorem test_pop :
    (after (.pop (spi 50100) 44 50100) answered).port.completions = [] ∧
      (after (.pop (spi 50100) 44 50100) answered).port.sdo.take 14 =
        [0x0B, 1, 9, 0, 3, 0x23, 0x01, 0, 0, 7, 0, 0, 0, 5] := by decide +kernel

/-- 43 bytes leave the record in the queue (R172). -/
theorem test_pop_short :
    (after (.pop (spi 50100) 43 50100) answered).port.completions = [.completion done] := by decide +kernel

/-- Hypotheses of `PopRemovesAWholeRecord`: an empty queue; a record at 43 and 44 bytes, with ATTN set and clear at the
end of the code byte. -/
theorem witness_pop :
    (station.atRest ∧ station.port.completions = [] ∧ answered.atRest ∧
      answered.port.completions = .completion done :: [] ∧ 43 < 44 ∧ 44 ≤ 44 ∧
      answered.statusByte.getLsbD 1 = true ∧ station.statusByte.getLsbD 1 = false ∧ remembering.atRest) ∧
    answered.showed 50000
      { since := answered.clock, status := answered.statusByte, record := answered.statusRecord } := by
  refine ⟨?_, showed_now _ _ (Nat.le_refl _)⟩
  simp only [atRest_iff]
  decide +kernel

/-- The status record of station 1 of two (R173). -/
theorem test_stat :
    (after (.stat (reading 50100) 16) { station with port := { station.port with torn := true } }).port.sdo =
        [0x09, 2, 1, 5, 4, 6, 0, 6, 0, 0, 0, 0, 0, 0, 0, 0, 0] ∧
      (after (.stat (reading 50100) 16) { station with port := { station.port with torn := true } }).port.torn = false ∧
      (after (.stat (reading 50100) 15) { station with port := { station.port with torn := true } }).port.torn = true := by
  decide +kernel

/-- An unknown code returns the status byte and zeros (R167). -/
theorem test_unknown_code :
    (after (.spiUnknownCode (reading 50100) (some 9) [1, 2]) station).port.sdo = [0x09, 0, 0] ∧
      (after (.spiUnknownCode (reading 50100) none []) station).port.sdo = [0x09] := by decide +kernel

/-- The code byte names the transaction: 1 puts a command, 3 pops the record, 4 returns the status record (R167). -/
theorem test_known_codes :
    (after (.spiUnknownCode (reading 50100) (some 1) readBytes) station).port.commands.length = 1 ∧
      (after (.spiUnknownCode (reading 50100) (some 3) (List.replicate 44 7)) answered).port.completions = [] ∧
      (after (.spiUnknownCode (reading 50100) (some 4) (List.replicate 2 7)) station).port.sdo = [0x09, 2, 1] := by
  decide +kernel

/-- Hypotheses of `StatReturnsTheStatusRecord` (15 and 16 bytes) and of `UnknownCodeReturnsStatusByteOnly`: a record as it
stands, one of before the latest event, and a CS# that fell before RESET# rose. -/
theorem witness_stat :
    (station.atRest ∧ 15 < 16 ∧ 16 ≤ 16 ∧ station.pins.resetRose ≤ 50000 ∧ remembering.atRest ∧ justReset.atRest ∧
      49999 < justReset.pins.resetRose ∧ (∀ c : Byte, some 9 = some c → c.toNat ∉ [1, 2, 3, 4]) ∧
      ∀ c : Byte, none = some c → c.toNat ∉ [1, 2, 3, 4]) ∧
    (∃ x, station.showed 50000 x) ∧ ∃ x, remembering.showed 49999 x := by
  refine ⟨?_, ⟨_, showed_now _ _ (Nat.le_refl _)⟩, ⟨_, showed_before⟩⟩
  simp only [atRest_iff]
  decide +kernel

/-! ## The head of the command queue -/

/-- A short WRITE completes BAD_FIELD with version 0 (R142). -/
theorem test_malformed :
    (after .write (withHead station { command .write 3 with long := false })).port.completions =
      [.completion (plainRecord (command .write 3) 3 .badField 0)] := by decide +kernel

/-- Kind 14 completes BAD_COMMAND with the key field as written (R141). -/
theorem test_badCommand :
    (after .badCommand (withHead station { command .read 0xFFFF with kind := 14 })).port.completions =
      [.completion (plainRecord (command .read 0xFFFF) 0xFFFF .badCommand 0)] := by decide +kernel

/-- Hypotheses of `MalformedCommandCompletesAtOnce`, one record for each check at its boundary. -/
theorem witness_malformed :
    (withHead station (command .read 4096)).atHeadOf .read (command .read 4096) ∧
      formError .read (command .read 4096) = some .badKey ∧ formError .read (command .read 4095) = none ∧
      formError .write { command .write 3 with long := false } = some .badField ∧
      formError .reserve { command .reserve 3 with slot := 4 } = some .badField ∧
      formError .add { command .add 3 with wordIndex := 8 } = some .badField ∧
      formError .fence { command .fence 3 with zeroByte := 1 } = some .badField ∧
      (withHead station { command .read 3 with kind := 0 }).ready ∧ (0 : Byte).toNat = 0 ∧
      14 ≤ (14 : Byte).toNat := by
  simp only [atHeadOf_iff, ready_iff]
  decide +kernel

/-- Hypotheses of `StationStateDecidesTheHead`, in the three states. -/
theorem witness_station_state :
    (withHead (forming .excluded) (command .fence 0)).atHeadOf .fence (command .fence 0) ∧
      (withHead (forming .listen) (command .commit 0)).atHeadOf .commit (command .commit 0) ∧
      (withHead (forming .rolled) (command .read 3)).atHeadOf .read (command .read 3) ∧
      formError .fence (command .fence 0) = none ∧ formError .commit (command .commit 0) = none ∧
      formError .read (command .read 3) = none := by
  simp only [atHeadOf_iff]
  decide +kernel

/-- An EXCLUDED station answers NOT_MEMBER; a LISTEN station waits (R143). -/
theorem test_station_state :
    (after .read (withHead (forming .excluded) (command .read 3))).port.completions =
        [.completion (plainRecord (command .read 3) 3 .notMember 0)] ∧
      (after .fence (withHead (forming .listen) (command .fence 3))).engine =
        { headStatus := .waiting, fenceWait := true } := by decide +kernel

/-- A pending entry that names slot 0, of a COMMIT of key 3. -/
def commitEntry : PendingEntry :=
  { fetchEntry with kind := .update, command := .commit, slot := some 0, update := some (Update.make .swap 7 0 (v 3)) }

/-- Slot 0 in a given state on key 3 at version 7. -/
def slotOn (st : SlotState) : Slot := { state := st, key := 3, version := 7 }

/-- Hypotheses of `HeadWaitsForItsKeyAndSlot`: the key, the slot's key, the slot. -/
theorem witness_head_waits :
    (withHead (withEntry station fetchEntry) (command .read 3)).atHeadOf .read (command .read 3) ∧
      (withHead (withEntry station fetchEntry) (command .read 3)).tracker.entries[0] = some fetchEntry ∧
      formError .read (command .read 3) = none ∧
      (withHead (withSlot (withEntry station fetchEntry) 1 (slotOn .held))
        { command .commit 0 with slot := 1 }).atHeadOf .commit { command .commit 0 with slot := 1 } ∧
      (withSlot (withEntry station fetchEntry) 1 (slotOn .held)).slots[1].key = fetchEntry.key ∧
      (withHead (withEntry station commitEntry) (command .reserve 5)).atHeadOf .reserve (command .reserve 5) ∧
      commitEntry.slot = some 0 ∧ formError .reserve (command .reserve 5) = none := by
  simp only [atHeadOf_iff]
  decide +kernel

/-- A station whose home 2 is SILENT. -/
def homeless : State :=
  { station with
    formation := { station.formation with
      members :=
        [member 1 0 .up 0,
          member 2 1 .silent 3] } }

/-- A RESERVE of a key whose home is SILENT completes HOME_DOWN and empties its slot (R145). -/
theorem test_home_down :
    (after .reserve (withHead (withSlot homeless 0 (slotOn .held)) (command .reserve 5))).port.completions =
        [.completion (plainRecord (command .reserve 5) 5 .homeDown 0)] ∧
      (after .reserve (withHead (withSlot homeless 0 (slotOn .held)) (command .reserve 5))).slots[0] =
        slotOn .empty := by decide +kernel

/-- Hypotheses of `DepartedHomeCompletesHomeDown`, for a READ and a RESERVE. -/
theorem witness_home_down :
    (withHead homeless (command .read 3)).atHeadOf .read (command .read 3) ∧
      (withHead homeless (command .reserve 3)).atHeadOf .reserve (command .reserve 3) ∧
      formError .read (command .read 3) = none ∧ formError .reserve (command .reserve 3) = none ∧
      (withHead homeless (command .read 3)).headBlocked .read (command .read 3) = false ∧
      (withHead homeless (command .reserve 3)).headBlocked .reserve (command .reserve 3) = false ∧
      homeless.formation.homeOf 3 = some (member 2 1 .silent 3) ∧
      (command .reserve 3).slot.toNat = (0 : Fin 4).val := by
  simp only [atHeadOf_iff]
  decide +kernel

/-! ## The commands -/

/-- The station with key 4, its own, at version 7. -/
def stored : State := withStore station [(4, { committed := present 7 5, publishing := false })]

/-- The same with key 4 publishing. -/
def publishing4 : State := withStore station [(4, { committed := present 7 5, publishing := true })]

/-- Every pending entry in use, none for key 3. -/
def fullTable : State :=
  { station with
    tracker := { station.tracker with entries := Vector.replicate 8 (some { fetchEntry with key := 7 }) } }

/-- The inbound queue full of requests. -/
def fullInbound : State :=
  { station with
    home := { station.home with
      inbound := List.replicate 8 { source := .span, request := .fetch, key := 6, requester := 2, tag := 9 } } }

/-- A READ of an own-home key completes with the committed record (R34, R146). -/
theorem test_read_home :
    (after .read (withHead stored (command .read 4))).port.completions =
      [.completion
        { hostTag := 9, outcome := .ok, key := 4, version := 7, present := true, value := some (v 5) }] := by
  decide +kernel

/-- A READ of a remote key without a copy is dispatched: generation 1, index 0, tag 8; way 0 is claimed (R44,
R77). -/
theorem test_read_miss :
    (after .read (withHead station (command .read 3))).tracker.entries[0] =
        some { fetchEntry with hostTag := 9, readyTime := 50000 } ∧
      (after .read (withHead station (command .read 3))).copies[3][0] =
        { state := .filling, key := 3, record := .cleared, age := 0 } ∧
      (after .read (withHead station (command .read 3))).span.req = true := by decide +kernel

/-- Hypotheses of `ReadIsServedOrDispatched`: home, publishing home, VALID copy; a key without an entry, a FRESH
READ of a VALID copy, and a full pending table. -/
theorem witness_read :
    ((withHead stored (command .read 4)).reachesStep8 .read (command .read 4) ∧
        stored.ownHome 4 = true ∧ stored.publishing 4 = false) ∧
      ((withHead publishing4 (command .read 4)).reachesStep8 .read (command .read 4) ∧
        publishing4.ownHome 4 = true ∧ publishing4.publishing 4 = true) ∧
      ((withHead (withCopy station .valid 3 (present 2 1)) (command .read 3)).reachesStep8 .read (command .read 3) ∧
        station.ownHome 3 = false ∧ (command .read 3).flags.getLsbD 0 = false ∧
        (withCopy station .valid 3 (present 2 1)).copies.entry 3 =
          some { state := .valid, key := 3, record := present 2 1, age := 0 }) ∧
      ((withHead station (command .read 3)).reachesStep8 .read (command .read 3) ∧
        station.copies.entry 3 = none ∧ station.tracker.freeIndex = some 0 ∧
        station.formation.homeOf 3 = some (member 2 1 .up 0)) ∧
      ((withHead (withCopy station .valid 3 (present 2 1)) { command .read 3 with flags := 1 }).reachesStep8 .read
          { command .read 3 with flags := 1 } ∧
        ({ command .read 3 with flags := 1 } : CommandRecord).flags.getLsbD 0 = true) ∧
      (withHead fullTable (command .read 3)).reachesStep8 .read (command .read 3) ∧
      fullTable.ownHome 3 = false ∧ fullTable.copies.entry 3 = none ∧ fullTable.tracker.freeIndex = none := by
  simp only [reachesStep8_iff]
  decide +kernel

/-- A RESERVE of an own-home key holds its slot at the committed version (R63). -/
theorem test_reserve :
    (after .reserve (withHead stored (command .reserve 4))).slots[0] = { state := .held, key := 4, version := 7 } := by
  decide +kernel

/-- Hypotheses of `ReserveObtainsItsRecord`: home, publishing home, VALID copy, miss, full pending table. -/
theorem witness_reserve :
    ((withHead stored (command .reserve 4)).reachesStep8 .reserve (command .reserve 4) ∧
        stored.ownHome 4 = true ∧ stored.publishing 4 = false ∧
        (command .reserve 4).slot.toNat = (0 : Fin 4).val) ∧
      ((withHead publishing4 { command .reserve 4 with slot := 3 }).reachesStep8 .reserve
          { command .reserve 4 with slot := 3 } ∧ (3 : Byte).toNat = (3 : Fin 4).val) ∧
      (withHead (withCopy station .valid 3 (present 2 1)) (command .reserve 3)).reachesStep8 .reserve
        (command .reserve 3) ∧
      (withHead station (command .reserve 3)).reachesStep8 .reserve (command .reserve 3) ∧
      (withHead fullTable (command .reserve 3)).reachesStep8 .reserve (command .reserve 3) := by
  simp only [reachesStep8_iff]
  decide +kernel

/-- A WRITE of a remote key is dispatched as an UPDATE with its value (R148). -/
theorem test_write_remote :
    ((after .write (withHead station (command .write 3))).tracker.entries[0]).map
        (fun e => (e.kind, e.home, e.update)) =
      some (.update, 2, some { op := .write, expected := 0, wordIndex := 0, value := v 3 }) := by decide +kernel

/-- An ADD of an own-home key joins the inbound queue, and the Home Engine then publishes the sum (R149, R23,
R9). -/
theorem test_add_local :
    (after .inboundUpdateHandled (after .add (withHead stored (command .add 4)))).home.outbound.map
        (fun o => (o.frame.record, o.frame.aux, o.localOrigin)) = [(present 8 8, 3, true)] := by decide +kernel

/-- A SWAP of another version is refused to its LOCAL entry with the committed version (R8, R25). -/
theorem test_swap_mismatch :
    (after .inboundUpdateHandled (after .swap (withHead stored { command .swap 4 with expected := 6 }))).port.completions =
      [.completion (plainRecord (command .swap 4) 4 .versionMismatch 7)] := by decide +kernel

/-- A DELETE leaves the key absent at the next version (R10). -/
theorem test_delete :
    (after .inboundUpdateHandled (after .delete (withHead stored (command .delete 4)))).home.outbound.map
        (fun o => o.frame.record) = [{ present := false, version := 8, value := zeroValue }] := by decide +kernel

/-- Hypotheses of `UpdateIsDispatchedRemoteOrLocal`: remote, remote with the table full, own home, own home without
an inbound place. -/
theorem witness_update :
    ((withHead station (command .add 3)).reachesStep8 .add (command .add 3) ∧ station.ownHome 3 = false ∧
        updateOf (command .add 3) .add =
          some { op := .add, expected := 0, wordIndex := 0, value := v 3 } ∧
        station.formation.homeOf 3 = some (member 2 1 .up 0) ∧
        station.tracker.freeIndex = some 0) ∧
      ((withHead fullTable (command .write 3)).reachesStep8 .write (command .write 3) ∧
        fullTable.tracker.freeIndex = none) ∧
      ((withHead stored (command .delete 4)).reachesStep8 .delete (command .delete 4) ∧ stored.ownHome 4 = true ∧
        stored.home.inbound.length < 8) ∧
      (withHead fullInbound (command .swap 4)).reachesStep8 .swap (command .swap 4) ∧
      8 ≤ fullInbound.home.inbound.length := by
  simp only [reachesStep8_iff]
  decide +kernel

/-- A slot on key 4, the station's own. -/
def slotHome : Slot := { state := .held, key := 4, version := 7 }

/-- A COMMIT of a HELD slot on a remote key: the slot is COMMITTING, a SWAP at the slot's version goes out (R68). -/
theorem test_commit :
    (after .commit (withHead (withSlot station 0 (slotOn .held)) (command .commit 0))).slots[0] =
        slotOn .committing ∧
      ((after .commit (withHead (withSlot station 0 (slotOn .held)) (command .commit 0))).tracker.entries[0]).map
          (fun e => (e.key, e.slot, e.update)) =
        some (3, some 0, some { op := .swap, expected := 7, wordIndex := 0, value := v 3 }) := by decide +kernel

/-- A RELEASE empties its slot and completes OK with the slot's key (R71, R155). -/
theorem test_release :
    (after .release (withHead (withSlot station 0 (slotOn .lost)) (command .release 0))).slots[0] = slotOn .empty ∧
      (after .release (withHead (withSlot station 0 (slotOn .lost)) (command .release 0))).port.completions =
        [.completion (plainRecord (command .release 0) 3 .ok 0)] := by decide +kernel

/-- Hypotheses of `CommitAndReleaseAreJudgedByTheSlot`: an EMPTY, LOST and HELD slot, remote and own home, a full
pending table; and a RELEASE. -/
theorem witness_commit :
    ((withHead station (command .commit 0)).reachesStep8 .commit (command .commit 0) ∧
        station.slots[0].state = .empty ∧ (command .commit 0).slot.toNat = (0 : Fin 4).val) ∧
      (withHead (withSlot station 0 (slotOn .lost)) (command .commit 0)).reachesStep8 .commit (command .commit 0) ∧
      ((withHead (withSlot station 0 (slotOn .held)) (command .commit 0)).reachesStep8 .commit (command .commit 0) ∧
        station.ownHome 3 = false ∧ station.tracker.freeIndex = some 0) ∧
      ((withHead (withSlot station 0 slotHome) (command .commit 0)).reachesStep8 .commit (command .commit 0) ∧
        station.ownHome 4 = true) ∧
      (withHead (withSlot fullTable 0 (slotOn .held)) (command .commit 0)).reachesStep8 .commit (command .commit 0) ∧
      (withHead (withSlot fullInbound 0 slotHome) (command .commit 0)).reachesStep8 .commit (command .commit 0) ∧
      (withHead (withSlot station 3 (slotOn .lost)) { command .release 0 with slot := 3 }).reachesStep8 .release
        { command .release 0 with slot := 3 } := by
  simp only [reachesStep8_iff]
  decide +kernel

/-- A FENCE waits for the pending table (R151). -/
theorem test_fence :
    (after .fence (withHead (withEntry station fetchEntry) (command .fence 0))).engine =
        { headStatus := .waiting, fenceWait := true } ∧
      (after .fence (withHead station (command .fence 9))).port.completions =
        [.completion (plainRecord (command .fence 9) 0 .ok 0)] := by decide +kernel

/-- Hypotheses of `FenceWaitsForThePendingTable`. -/
theorem witness_fence :
    (withHead station (command .fence 0)).atHeadOf .fence (command .fence 0) ∧
      (withHead (withEntry station fetchEntry) (command .fence 0)).atHeadOf .fence (command .fence 0) ∧
      formError .fence (command .fence 0) = none ∧ (∀ i : Fin 8, station.tracker.entries[i] = none) ∧
      (withEntry station fetchEntry).tracker.entries[0] = some fetchEntry := by
  simp only [atHeadOf_iff]
  decide +kernel

/-- A watch of key 3, ARMED. -/
def armed3 : WatchEntry := { state := .armed, key := 3, cookie := 5, every := true, firing := .cleared }

/-- The same FIRED by a PUBLISH of station 2. -/
def fired3 : WatchEntry :=
  { armed3 with state := .fired, firing := { reason := .changed, origin := 2, record := present 8 6 } }

/-- Every watch entry ARMED on a key of its own, none on key 99. -/
def watchFull : State :=
  { station with
    watch :=
      { station.watch with
        entries := Vector.ofFn fun i => { armed3 with key := BitVec.ofNat 16 (100 + i.val) } } }

/-- WATCH arms entry 0 with cookie and every from the record; UNWATCH frees it (R159, R160). -/
theorem test_watch :
    (after .watch (withHead station { command .watch 3 with expected := 5, flags := 4 })).watch.entries[0] = armed3 ∧
      (after .unwatch (withHead (withWatch station 0 fired3) (command .unwatch 3))).watch.entries[0] = .cleared ∧
      (after .unwatch (withHead (withWatch station 0 fired3) (command .unwatch 3))).watch.fired = [] := by
  decide +kernel

/-- The watch laws of a station with no watch but the given one at index 0. -/
theorem watchLaw_single (s : State) (w : WatchEntry) (hs : s.watch = WatchUnit.afterReset)
    (hf : w.state ≠ .free) (ha : w.state = .armed → w.firing = .cleared) : WatchLaw (withWatch s 0 w) := by
  have he : ∀ i : Fin 32, (withWatch s 0 w).watch.entries[i] = if i = 0 then w else .cleared := by
    intro i
    simp only [withWatch, hs, WatchUnit.afterReset, Fin.getElem_fin, Vector.getElem_set, Vector.getElem_replicate]
    simp only [Fin.ext_iff, eq_comm]
  have hl : (withWatch s 0 w).watch.fired = if w.state = .fired then [0] else [] := by
    simp [withWatch, hs, WatchUnit.afterReset]
  refine ⟨?_, ?_, ?_, ?_, ?_⟩
  · rw [hl]; split <;> simp
  · intro i
    rw [hl, he]
    by_cases hi : i = 0
    · subst hi; by_cases hw : w.state = .fired <;> simp [hw]
    · rw [if_neg hi]
      by_cases hw : w.state = .fired <;> simp [hw, hi, WatchEntry.cleared]
  · intro i j
    rw [he, he]
    by_cases hi : i = 0 <;> by_cases hj : j = 0 <;> simp [hi, hj, WatchEntry.inUse, WatchEntry.cleared]
  · intro i
    rw [he]
    split
    · exact ha
    · intro h; exact absurd h (by decide)
  · intro i
    rw [he]
    split
    · intro h; exact absurd h hf
    · intro _; rfl

/-- Hypotheses of `WatchAndUnwatchKeepTheWatchTable`: a watched key (both commands), a free entry, a full table and
an UNWATCH of an unwatched key. -/
theorem witness_watch :
    WatchLaw (withWatch (withHead station (command .watch 3)) 0 fired3) ∧
      (withWatch (withHead station (command .watch 3)) 0 fired3).reachesStep8 .watch (command .watch 3) ∧
      (withWatch (withHead station (command .unwatch 3)) 0 fired3).reachesStep8 .unwatch (command .unwatch 3) ∧
      (withWatch station 0 fired3).watch.entries[0].state ≠ .free ∧
      (withWatch (withHead station (command .watch 4)) 0 fired3).reachesStep8 .watch (command .watch 4) ∧
      (withWatch (withHead station (command .unwatch 4)) 0 fired3).reachesStep8 .unwatch (command .unwatch 4) ∧
      (∀ j : Fin 32, (withWatch station 0 fired3).watch.entries[j].state ≠ .free →
        (withWatch station 0 fired3).watch.entries[j].key ≠ 4) ∧
      (withWatch station 0 fired3).watch.entries[1].state = .free ∧
      (withHead watchFull (command .watch 99)).reachesStep8 .watch (command .watch 99) ∧
      ∀ j : Fin 32, watchFull.watch.entries[j].state ≠ .free ∧ watchFull.watch.entries[j].key ≠ 99 := by
  refine ⟨watchLaw_single _ _ rfl (by decide) (by decide), ?_⟩
  simp only [reachesStep8_iff]
  decide +kernel

/-- The watch laws of a full table. -/
theorem watchFull_lawful : WatchLaw (withHead watchFull (command .watch 99)) where
  fired_once := by decide +kernel
  fired_listed := by decide +kernel
  key_once := by decide +kernel
  armed_clear := by decide +kernel
  free_cleared := by decide +kernel

/-- DROP frees a VALID copy (R56). -/
theorem test_drop :
    (after .drop (withHead (withCopy station .valid 3 (present 2 1)) (command .drop 3))).copies[3][0] = .cleared := by
  decide +kernel

/-- A group of FREE ways is lawful. -/
theorem groupLaw_cleared (i : Fin 64) : GroupLaw i (Vector.replicate 4 CopyEntry.cleared) := by
  refine ⟨?_, ?_, ?_, ?_, ?_⟩ <;> simp [CopyEntry.occupied, CopyEntry.cleared]

/-- The groups of the empty table but the one written. -/
theorem emptyTable_set (g : CopyGroup) (i : Fin 64) (hi : i ≠ 3) :
    (CopyTable.afterReset.set 3 g (by decide))[i] = Vector.replicate 4 CopyEntry.cleared := by
  have h3 : (3 : Nat) ≠ i.val := fun h => hi (Fin.ext h.symm)
  show (Vector.set _ 3 _ (by decide))[i.val] = _
  rw [Vector.getElem_set_ne (by decide) i.isLt h3]
  exact Vector.getElem_replicate _

/-- The Copy Table's laws with one copy. -/
theorem copyLaw_single (st : CopyState) (hs : st ≠ .free) (r : TableRecord) :
    CopyLaw (withCopy station st 3 r) := by
  intro i
  by_cases hi : i = 3
  · subst hi
    have hg : ∀ w : Fin 4, (withCopy station st 3 r).copies[(3 : Fin 64)][w] =
        if w = 0 then { state := st, key := 3, record := r, age := 0 } else .cleared := by
      intro w
      fin_cases w <;> rfl
    have ho : (st != .free) = true := by simpa using hs
    refine ⟨?_, ?_, ?_, ?_, ?_⟩
    · intro w
      rw [hg]
      fin_cases w <;> simp [hs]
    · intro w
      rw [hg]
      fin_cases w <;> simp [CopyEntry.occupied, CopyEntry.cleared, groupOf]
    · intro x w
      rw [hg, hg]
      fin_cases x <;> fin_cases w <;> simp [CopyEntry.occupied, CopyEntry.cleared]
    · intro x w
      rw [hg, hg]
      fin_cases x <;> fin_cases w <;> simp [CopyEntry.occupied, CopyEntry.cleared]
    · intro w
      simp only [CopyGroup.occupiedCount, allWays, hg]
      fin_cases w <;> simp [CopyEntry.occupied, CopyEntry.cleared, hs]
  · rw [show (withCopy station st 3 r).copies[i] = Vector.replicate 4 CopyEntry.cleared from
      emptyTable_set _ i hi]
    exact groupLaw_cleared i

/-- Group 3 full of copies in one state, the way's number its age. -/
def fullGroup (st : CopyState) : CopyTable :=
  CopyTable.afterReset.set 3
    (Vector.ofFn fun w : Fin 4 => { state := st, key := BitVec.ofNat 16 (3 + 64 * w.val), record := .cleared, age := w.val })

theorem fullGroup_lawful (st : CopyState) (hs : st = .filling ∨ st = .valid) (i : Fin 64) :
    GroupLaw i (fullGroup st)[i] := by
  by_cases hi : i = 3
  · subst hi
    rcases hs with rfl | rfl <;>
      exact ⟨by decide +kernel, by decide +kernel, by decide +kernel, by decide +kernel, by decide +kernel⟩
  · rw [show (fullGroup st)[i] = Vector.replicate 4 CopyEntry.cleared from emptyTable_set _ i hi]
    exact groupLaw_cleared i

/-- A miss claims the FREE way of the lowest number, else the VALID way of the highest age, else none; a touch raises the
younger ways (R41, R44, R45). -/
theorem test_copy_ways :
    ((withCopy station .valid 3 .cleared).copies.claimKey 67)[3][1] =
        { state := .filling, key := 67, record := .cleared, age := 0 } ∧
      ((withCopy station .valid 3 .cleared).copies.claimKey 67)[3][0].age = 1 ∧
      ((fullGroup .valid).claimKey 259)[3][3].key = 259 ∧ (fullGroup .filling).claimKey 259 = fullGroup .filling ∧
      (List.finRange 4).map (fun w => ((fullGroup .valid).touchKey 131)[3][w].age) = [1, 2, 0, 3] ∧
      (List.finRange 4).map (fun w => ((fullGroup .filling).endFilling 131)[3][w].age) = [0, 1, 0, 2] := by
  decide +kernel

/-- Hypotheses of the Copy Table's clauses of `ReadIsServedOrDispatched`, `LimitsAndDeadlinesEndTheEntry` and
`TakenDataCompletesItsFetch`: a group with a FREE way, one full of VALID ways, one full of FILLING ways. -/
theorem witness_copy_ways :
    (CopyLaw (withCopy station .valid 3 .cleared) ∧ (∀ i : Fin 64, GroupLaw i (fullGroup .valid)[i]) ∧
      ∀ i : Fin 64, GroupLaw i (fullGroup .filling)[i]) ∧
    ((3 : Fin 64).val = (131 : Key).toNat % 64 ∧ (fullGroup .valid)[3][2].state ≠ .free ∧
      (fullGroup .valid)[3][2].key = 131 ∧ (fullGroup .filling)[3][2].state = .filling ∧
      (fullGroup .filling)[3][2].key = 131 ∧ (withCopy station .valid 3 .cleared).copies[3][1].state = .free ∧
      (withCopy station .valid 3 .cleared).copies[3][0].state ≠ .free ∧
      (∀ v : Fin 4, (fullGroup .valid)[3][v].state = .valid ∧ (fullGroup .valid)[3][v].age ≤ (fullGroup .valid)[3][3].age) ∧
      ∀ v : Fin 4, (fullGroup .filling)[3][v].state = .filling) :=
  ⟨⟨copyLaw_single .valid (by decide) .cleared, fullGroup_lawful _ (.inr rfl), fullGroup_lawful _ (.inl rfl)⟩,
    by decide +kernel⟩

/-- Hypotheses of `DropFreesTheCopy`: a VALID copy of the key, and a FILLING one. -/
theorem witness_drop :
    CopyLaw (withHead (withCopy station .valid 3 (present 2 1)) (command .drop 3)) ∧
      CopyLaw (withHead (withCopy station .filling 3 .cleared) (command .drop 3)) ∧
      (withHead (withCopy station .valid 3 (present 2 1)) (command .drop 3)).reachesStep8 .drop (command .drop 3) ∧
      (withHead (withCopy station .filling 3 .cleared) (command .drop 3)).reachesStep8 .drop (command .drop 3) ∧
      (withCopy station .valid 3 (present 2 1)).copies[groupOf 3][0].state = .valid ∧
      (withCopy station .valid 3 (present 2 1)).copies[groupOf 3][0].key = 3 ∧
      ∀ w : Fin 4, (withCopy station .filling 3 .cleared).copies[groupOf 3][w].state ≠ .valid := by
  refine ⟨copyLaw_single _ (by decide) _, copyLaw_single _ (by decide) _, ?_⟩
  simp only [reachesStep8_iff]
  decide +kernel

/-- REFORM queues a REFORM frame of the next epoch and keeps the command (R134, R154). -/
theorem test_reform :
    (after .reform (withHead (forming .excluded) (command .reform 0))).formation.reform = some 6 ∧
      (after .reform (withHead (forming .excluded) (command .reform 0))).formation.reformTags = [9] ∧
      (after .reform (withHead (forming .excluded) (command .reform 0))).port.outstanding = 1 := by decide +kernel

/-- Hypotheses of `ReformIsHandedOver`. -/
theorem witness_reform :
    (withHead (forming .listen) (command .reform 0)).atHeadOf .reform (command .reform 0) ∧
      formError .reform (command .reform 0) = none := by
  simp only [atHeadOf_iff]
  decide +kernel

/-! ## The laws, in a state where every block is at work -/

/-- A PUBLISH of key 4, the station's own, for station 2. -/
def pubFrame : Frame :=
  { Frame.blank .publish 1 5 with
    target := 2, tag := 16, key := 4, present := true, long := true, aux := 1, version := 8, value := v 6 }

/-- The Home Engine with that PUBLISH queued and key 4 marked. -/
def pubHome : HomeEngine :=
  { store := [(4, { committed := present 7 5, publishing := true })]
    inbound := []
    heldPlace := false
    outbound := [{ frame := pubFrame, attempts := 0, localOrigin := false }] }

/-- A fetch in flight with its FILLING copy, a FIRED watch, and the PUBLISH queued. -/
def work : State :=
  { withWatch (withCopy (withEntry station fetchEntry) .filling 3 .cleared) 0 fired3 with home := pubHome }

theorem homeLaw_pub (s : State) (h : s.home = pubHome) : HomeLaw s where
  store_canonical := by rw [h]; decide
  inbound_bounded := by rw [h]; decide
  outbound_bounded := by rw [h]; decide
  one_publish_per_mark := by
    intro k
    rw [State.publishing, h]
    by_cases hk : k = 4
    · subst hk
      decide
    · have hn : ¬ (4 : Nat) = k.toNat := fun e => hk (BitVec.eq_of_toNat_eq e.symm)
      have hp : pubFrame.publishes k = false := by
        have : (pubFrame.key == k) = false := by simpa [pubFrame] using Ne.symm hk
        simp [Frame.publishes, this]
      simp [pubHome, storeGet, hn, hp, HomeRecord.cleared]

theorem trackerLaw_single (s : State) (e : PendingEntry) (h0 : s.tracker.entries[(0 : Fin 8)] = some e)
    (h : ∀ i : Fin 8, i ≠ 0 → s.tracker.entries[i] = none) (ht : e.tag.toNat % 8 = 0)
    (hc : ∀ n : Fin 4, s.slots[n].state ≠ .committing) : TrackerLaw s := by
  have only : ∀ (i : Fin 8) (x : PendingEntry), s.tracker.entries[i] = some x → i = 0 ∧ x = e := by
    intro i x hx
    by_cases hi : i = 0
    · subst hi
      exact ⟨rfl, Option.some.inj (hx.symm.trans h0)⟩
    · rw [h i hi] at hx
      exact nomatch hx
  refine ⟨?_, ?_, ?_, ?_⟩
  · intro i x hx
    obtain ⟨rfl, rfl⟩ := only i x hx
    exact ht
  · intro i j x y hx hy _
    rw [(only i x hx).1, (only j y hy).1]
  · intro i j x y n hx hy _ _
    rw [(only i x hx).1, (only j y hy).1]
  · intro n hn
    exact absurd hn (hc n)

theorem memberLaw_station (s : State) (hf : s.formation = station.formation) (hp : s.pins.station = 1) :
    MemberLaw s where
  table_of_member := by rw [hf]; decide +kernel
  self_listed := by rw [hf, hp]; decide +kernel
  stations_ascend := by rw [hf]; decide +kernel
  ranks_count := by rw [hf]; decide +kernel
  self_up := by rw [hf, hp]; decide +kernel
  silence_bounded := by rw [hf]; decide +kernel
  silent_at_three := by rw [hf]; decide +kernel
  close_timer_rolled := by rw [hf]; decide +kernel
  reclose_timer_member := by rw [hf]; decide +kernel
  roll_list_forming := by rw [hf]; decide +kernel

theorem spanLaw_quiet (s : State) (hs : s.span.synced = true) (hw : s.span.lastWinner = some 15)
    (ht : s.span.tenure = .quiet) (hl : s.span.ack = false ∧ s.span.rty = false ∧ s.span.chk = false)
    (hr : s.pins.resetLow = none) (hi : s.span.intruder = .absent) (hd : s.pins.spdSince = none) :
    SpanLaw s where
  unsynced_silent := by simp [hs]
  synced_winner := by simp [hw]
  won_synced := by simp [ht]
  frame_winner := by simp [ht]
  window_winner := by simp [ht]
  lines_in_window := by simp [hl]
  intruder_in_window := by simp [hi]
  intruder_driven := by simp [ht]
  idle_while_quiet := by simp [hd]
  chk_alone := by simp [hl]
  reset_releases := by simp [hr]

/-- Hypotheses of the seven statements `EveryStepKeeps…`: the laws hold at `work`, and its step, a NOTICE_DELIVERY,
answers a next state. -/
theorem witness_laws :
    let s : State := { work with pending := [.noticeDelivery 0] }
    (PortLaw s ∧ HomeLaw s ∧ CopyLaw s ∧ TrackerLaw s ∧ WatchLaw s ∧ MemberLaw s ∧ SpanLaw s) ∧
      step s = .next (after (.noticeDelivery 0) work) := by
  refine ⟨⟨⟨by decide +kernel, by decide +kernel, by decide +kernel⟩, homeLaw_pub _ rfl,
    copyLaw_single .filling (by decide) .cleared,
    trackerLaw_single _ fetchEntry rfl (by decide +kernel) (by decide) (by decide +kernel), ?_,
    memberLaw_station _ rfl rfl, spanLaw_quiet _ rfl rfl rfl ⟨rfl, rfl, rfl⟩ rfl rfl rfl⟩, rfl⟩
  exact ⟨by decide +kernel, by decide +kernel, by decide +kernel, by decide +kernel, by decide +kernel⟩

/-! ## The Home Engine -/

/-- A request in the inbound queue. -/
def queued (s : State) (q : InboundEntry) : State :=
  { s with home := { s.home with inbound := [q] } }

/-- A FETCH of station 2 with tag 17. -/
def fetchOf (key : Key) : InboundEntry :=
  { source := .span, request := .fetch, key := key, requester := 2, tag := 17 }

/-- An update of station 2 with tag 17, or of this station with the LOCAL entry's tag 8. -/
def updateOn (source : RequestSource) (key : Key) (u : Update) : InboundEntry :=
  { source := source, request := .update u, key := key, requester := if source = .own then 1 else 2,
    tag := if source = .own then 8 else 17 }

/-- A SWAP expecting version 6. -/
def swap6 : Update := { op := .swap, expected := 6, wordIndex := 0, value := v 3 }

/-- An ADD of 3 to word 0. -/
def add3 : Update := { op := .add, expected := 0, wordIndex := 0, value := v 3 }

/-- The LOCAL entry of a SWAP of key 4. -/
def ownEntry : PendingEntry :=
  { fetchEntry with kind := .own, key := 4, home := 1, command := .swap, state := .waitHome }

/-- A full outbound queue. -/
def outboundFull (s : State) : State :=
  { s with
    home := { s.home with
      outbound := List.replicate 8
        { frame := Frame.blank .refuse 1 5, attempts := 0, localOrigin := false } } }

/-- A FETCH is answered with a DATA of the committed record, to its requester with its tag (R22). -/
theorem test_inbound_fetch :
    (after .inboundFetchHandled (queued stored (fetchOf 4))).home.outbound.map (fun o => (o.frame.kind, o.frame.target,
        o.frame.tag, o.frame.record)) = [(some .data, 2, 17, present 7 5)] ∧
      (after .inboundFetchHandled (queued publishing4 (fetchOf 4))).home.inbound = [fetchOf 4] := by decide +kernel

/-- Hypotheses of `InboundFetchIsAnswered`: a publishing key, a full outbound queue, an own-home key and another. -/
theorem witness_inbound_fetch :
    ((queued publishing4 (fetchOf 4)).ready ∧ publishing4.publishing 4 = true) ∧
      ((queued (outboundFull stored) (fetchOf 4)).ready ∧ 8 ≤ (outboundFull stored).home.outbound.length) ∧
      ((queued stored (fetchOf 4)).ready ∧ stored.publishing 4 = false ∧ stored.ownHome 4 = true ∧
        stored.home.outbound.length < 8) ∧
      (queued stored (fetchOf 5)).ready ∧ stored.ownHome 5 = false ∧ stored.publishing 5 = false := by
  simp only [ready_iff]
  decide +kernel

/-- A SWAP of another version is answered with a REFUSE of reason 1 and the committed version (R8, R24, R115). -/
theorem test_inbound_update :
    (after .inboundUpdateHandled (queued stored (updateOn .span 4 swap6))).home.outbound.map (fun o => (o.frame.kind,
        o.frame.aux, o.frame.version)) = [(some .refuse, 1, 7)] ∧
      (after .inboundUpdateHandled (queued stored (updateOn .span 4 add3))).publishing 4 = true ∧
      (after .inboundUpdateHandled (queued stored (updateOn .span 4 add3))).committed 4 = present 7 5 := by
  decide +kernel

/-- Hypotheses of `InboundUpdateIsDecided`: publishing, not own-home, accepted, refused to a Span requester and to a
LOCAL entry; the versions at the top and at one below it. -/
theorem witness_inbound_update :
    (queued publishing4 (updateOn .span 4 add3)).ready ∧ (queued stored (updateOn .span 5 add3)).ready ∧
      ((queued stored (updateOn .span 4 add3)).ready ∧ judge (stored.committed 4) add3 = .ok (present 8 8)) ∧
      ((queued stored (updateOn .span 4 swap6)).ready ∧
        judge (stored.committed 4) swap6 = .error .versionMismatch) ∧
      ((queued (withEntry stored ownEntry) (updateOn .own 4 swap6)).ready ∧
        TrackerLaw (queued (withEntry stored ownEntry) (updateOn .own 4 swap6)) ∧
        (withEntry stored ownEntry).tracker.entries[(0 : Fin 8)] = some ownEntry ∧
        ownEntry.tag = (updateOn .own 4 swap6).tag) := by
  refine ⟨by simp only [ready_iff]; decide +kernel, by simp only [ready_iff]; decide +kernel,
    ⟨by simp only [ready_iff]; decide +kernel, rfl⟩, ⟨by simp only [ready_iff]; decide +kernel, rfl⟩,
    by simp only [ready_iff]; decide +kernel, ?_, rfl, rfl⟩
  exact trackerLaw_single _ ownEntry rfl (by decide +kernel) (by decide) (by decide +kernel)

/-- The top version refuses every update; one below it is still raised (R6). -/
theorem test_judge :
    judge { present 0 5 with version := topVersion } add3 = .error .versionLimit ∧
      judge { present 0 5 with version := 4294967294 } add3 =
        .ok { present 0 8 with version := 4294967295 } := ⟨rfl, rfl⟩

/-- An ADD to an absent record counts it as zero (R9); a word wraps modulo 2^32. -/
theorem test_judge_add :
    judge .cleared { add3 with wordIndex := 7 } =
        .ok { present := true, version := 1, value := #v[0, 0, 0, 0, 0, 0, 0, 3] } ∧
      judge (present 1 0xFFFFFFFF) add3 = .ok (present 2 2) := ⟨rfl, rfl⟩

/-- Hypotheses of `UpdateIsJudgedAgainstCommittedRecord`, at the boundary of the version. -/
theorem witness_judge :
    topVersion.toNat = 4294967295 ∧ (4294967294 : Version).toNat < 4294967295 ∧ swap6.op = .swap ∧
      swap6.expected ≠ (7 : Version) ∧ swap6.expected = (6 : Version) ∧ add3.op = .add ∧
      add3.wordIndex.toNat = (0 : Fin 8).val := by decide

/-- Hypothesis of `HomeStoreReadsWhatWasWritten`. -/
theorem witness_store : storeWf stored.home.store = true := by decide

/-- The station with one frame at the outbound head that has failed eight times. -/
def spent (s : State) (f : Frame) (localOrigin : Bool) : State :=
  { s with home := { s.home with outbound := [{ frame := f, attempts := 8, localOrigin := localOrigin }] } }

/-- A DATA that failed eight times leaves; a PUBLISH is dropped, its mark clears and its origin is sent a REFUSE
SPAN_FAULT (R30, R33). -/
theorem test_spent_head :
    (after .outboundDiscard (spent station (Frame.blank .data 1 5) false)).home.outbound = [] ∧
      (after .publishDropped (spent publishing4 pubFrame false)).publishing 4 = false ∧
      (after .publishDropped (spent publishing4 pubFrame false)).home.outbound.map (fun o => (o.frame.kind,
        o.frame.target, o.frame.aux, o.frame.version)) = [(some .refuse, 2, 3, 7)] := by decide +kernel

/-- Hypotheses of `SpentOutboundHeadLeaves`: a DATA, a PUBLISH of another station's update, one of a LOCAL entry. -/
theorem witness_spent_head :
    ((spent station (Frame.blank .data 1 5) false).live = true ∧ (Frame.blank .data 1 5).code ≠ 11) ∧
      ((spent publishing4 pubFrame false).live = true ∧ pubFrame.code = 11) ∧
      TrackerLaw (spent (withEntry publishing4 ownEntry) { pubFrame with target := 1, tag := 8 } true) ∧
      (withEntry publishing4 ownEntry).tracker.entries[(0 : Fin 8)] = some ownEntry ∧ ownEntry.kind = .own ∧
      ownEntry.tag = 8 :=
  ⟨by decide +kernel, by decide +kernel,
    trackerLaw_single _ ownEntry rfl (by decide +kernel) (by decide) (by decide +kernel), rfl, rfl, rfl⟩

/-! ## The Request Tracker -/

/-- The allocation after index 7 wraps to 0, and generation 31 to 0 (R77). -/
theorem test_allocation :
    ({ State.reset.tracker with nextIndex := 7 } : RequestTracker).freeIndex = some 7 ∧
      (({ State.reset.tracker with nextIndex := 7 } : RequestTracker).allocate 7 fetchEntry).nextIndex = 0 ∧
      ({ State.reset.tracker with generations := Vector.replicate 8 31 } : RequestTracker).tagAt 3 = 3 := by
  decide +kernel

/-- Sixteen RTY answers: HOME_BUSY with version 0, and the FILLING copy is freed (R80, R54). -/
theorem test_retry_limit :
    (after (.retryLimit 0) (withCopy (withEntry station { fetchEntry with retries := 16 }) .filling 3 .cleared)).port.completions =
        [.completion
          { hostTag := 8, outcome := .homeBusy, key := 3, version := 0, present := false, value := none }] ∧
      (after (.retryLimit 0) (withCopy (withEntry station { fetchEntry with retries := 16 }) .filling 3 .cleared)).copies[3][0] =
        .cleared := by decide +kernel

/-- The eighth send unanswered: HOME_SILENT and a silence of the home; voided: SPAN_FAULT (R81). -/
theorem test_attempt_limit :
    (after (.attemptLimit 0) (withEntry station { fetchEntry with attempts := 8 })).formation.find 2 =
        some (member 2 1 .up 1) ∧
      (after (.attemptLimit 0) (withEntry station { fetchEntry with attempts := 8, lastVoided := true })).port.completions =
        [.completion
          { hostTag := 8, outcome := .spanFault, key := 3, version := 0, present := false, value := none }] := by
  decide +kernel

/-- A FETCH taken by its home, its deadline at 100,000. -/
def sentEntry : PendingEntry := { fetchEntry with state := .sent, deadline := some 100000 }

/-- The deadline comes: HOME_SILENT (R89). -/
theorem test_deadline :
    (after (.deadlineExpiry 0) (withEntry station sentEntry)).clock = 100000 ∧
      (after (.deadlineExpiry 0) (withEntry station sentEntry)).tracker.entries[0] = none ∧
      (after (.deadlineExpiry 0) (withEntry station sentEntry)).port.completions =
        [.completion
          { hostTag := 8, outcome := .homeSilent, key := 3, version := 0, present := false, value := none }] := by
  decide +kernel

/-- The ready time comes after an RTY pause, and REQ is asserted (R78, R80, R102). -/
theorem test_ready_time :
    (after (.readyTime 0) (withEntry station { fetchEntry with readyTime := 50500 })).clock = 50500 ∧
      (after (.readyTime 0) (withEntry station { fetchEntry with readyTime := 50500 })).span.req = true := by
  decide +kernel

/-- Hypotheses of `LimitsAndDeadlinesEndTheEntry`, for each of its five cases. -/
theorem witness_limits :
    (withEntry station { fetchEntry with retries := 16 }).tracker.entries[(0 : Fin 8)] =
        some { fetchEntry with retries := 16 } ∧
      (withEntry station { fetchEntry with attempts := 8, lastVoided := true }).live = true ∧
      (withEntry station { fetchEntry with attempts := 8 }).live = true ∧
      ((withEntry station sentEntry).atRest ∧ sentEntry.deadline = some 100000) ∧
      (withEntry station fetchEntry).atRest ∧ fetchEntry.state = .queued ∧
      (withEntry station fetchEntry).tracker.entries[(0 : Fin 8)] = some fetchEntry := by
  simp only [atRest_iff]
  decide +kernel

/-- Hypotheses of `HealthFollowsSilenceAndEvidence`: no member table, the station itself, and another member. -/
theorem witness_health :
    (forming .listen).formation.state ≠ .member ∧ station.formation.state = .member ∧
      (1 : Station) = station.pins.station ∧ (2 : Station) ≠ station.pins.station := by
  decide

/-- A third silence counts 3; further ones leave the count (R126). -/
theorem test_silence :
    ((station.silence 2).silence 2).formation.find 2 =
        some (member 2 1 .up 2) ∧
      ((((station.silence 2).silence 2).silence 2).silence 2).formation.find 2 =
        some (member 2 1 .up 3) := by decide +kernel

/-- A silence and evidence at one moment, in either order: the count ends at 0 (R126). A later silence counts. -/
theorem test_silence_with_evidence :
    ((station.evidence 2).silence 2).formation.find 2 = some { member 2 1 .up 0 with evidenceAt := some 50000 } ∧
      ((station.silence 2).evidence 2).formation.find 2 = some { member 2 1 .up 0 with evidenceAt := some 50000 } ∧
      (((station.evidence 2).advance 50001).silence 2).formation.find 2 =
        some { member 2 1 .up 1 with evidenceAt := some 50000 } := by decide +kernel

/-- Three members; keys 67 and 131 of group 3 are homed at stations 2 and 3. -/
def threeHomes : State :=
  { station with
    formation := { station.formation with members := [member 1 0 .up 0, member 2 1 .up 3, member 3 2 .up 0] }
    copies := CopyTable.afterReset.set 3
      (#v[{ state := .valid, key := 67, record := present 7 1, age := 0 },
        { state := .valid, key := 131, record := present 7 2, age := 1 }, .cleared, .cleared] : CopyGroup) }

/-- The copy of the departed home is freed, and the other becomes the youngest (R42, R55). -/
theorem test_ages_close_up :
    (after (.memberSilent 2 []) threeHomes).copies[3][0] = .cleared ∧
      (after (.memberSilent 2 []) threeHomes).copies[3][1] =
        { state := .valid, key := 131, record := present 7 2, age := 0 } := by decide +kernel

/-- A state in which member 2 has been silent three times, with a copy, a slot, an entry and a watch on key 3. -/
def silent3 : State :=
  withWatch (withSlot (withCopy (withEntry
    { station with
      formation := { station.formation with
        members :=
          [member 1 0 .up 0,
            member 2 1 .up 3] } } sentEntry) .filling 3 .cleared) 1
      (slotOn .held)) 0 armed3

/-- MEMBER_SILENT: every block lets go of the member's keys (R127). -/
theorem test_member_silent :
    (after (.memberSilent 2 []) silent3).formation.find 2 =
        some (member 2 1 .silent 3) ∧
      (after (.memberSilent 2 []) silent3).copies[3][0] = .cleared ∧
      (after (.memberSilent 2 []) silent3).slots[1] = slotOn .lost ∧
      (after (.memberSilent 2 []) silent3).watch.fired = [0] := by decide +kernel

/-- Hypotheses of `SilentMemberIsWithdrawn`, and of the clause of `MemberWithdrawn` on ages. -/
theorem witness_member_silent :
    GroupLaw 3 threeHomes.copies[3] ∧ threeHomes.live = true ∧
      threeHomes.formation.find 2 = some (member 2 1 .up 3) ∧
    silent3.live = true ∧ silent3.formation.state = .member ∧
      silent3.formation.find 2 = some (member 2 1 .up 3) :=
  ⟨⟨by decide +kernel, by decide +kernel, by decide +kernel, by decide +kernel, by decide +kernel⟩, by decide +kernel⟩

/-! ## The Span Interface -/

/-- The table of R100 for last winner 7: lines 2, 7 and 11; 2 and 7; 7; 8; none. -/
theorem test_round_robin :
    roundRobin 7 0x0884 = some 11 ∧ roundRobin 7 0x0084 = some 2 ∧ roundRobin 7 0x0080 = some 7 ∧
      roundRobin 7 0x0100 = some 8 ∧ roundRobin 7 0 = none := by decide +kernel

/-- A station with a request wins against station 2 and chooses its FETCH (R100, R110). -/
def asking : State :=
  { withEntry station fetchEntry with span := { station.span with req := true } }

theorem test_arbitration :
    (after (.arbitrationPoint 50100 0x0004) asking).span.tenure = .won 1 50100 (some ownFetch) := by decide +kernel

/-- Hypotheses of `ArbitrationPointPicksRoundRobinWinner`: no line asserted; stations 1 and 2 asserted, 1 first. -/
theorem witness_arbitration :
    (station.atRest ∧ station.span.synced = true ∧ station.span.tenure = .quiet ∧ station.pins.spdSince = none ∧
        station.span.lastWinner = some 15 ∧ station.span.req = false ∧ station.span.reqAtClose = none ∧
        ∀ w : Station, (0 : StationSet).getLsbD w.toNat = false) ∧
      asking.atRest ∧ asking.span.tenure = .quiet ∧ asking.span.req = true ∧
      (1 - 15 - 1 : Station).toNat ≤ (2 - 15 - 1 : Station).toNat := by
  simp only [atRest_iff]
  decide +kernel

/-- A formation frame goes before the outbound head (R110). -/
theorem test_choose_frame :
    ({ work with formation := { work.formation with close := some { reclose := true, bitmap := 6, epoch := 5 } } } :
        State).chooseFrame =
        some { source := .formation .close
               frame := { Frame.blank .close 1 5 with reclose := true, key := 6 } } ∧
      work.chooseFrame = some { source := .outbound, frame := pubFrame } := by decide +kernel

/-- Hypotheses of `WinnerSendsTheFirstCandidate`: each source in turn; of two entries ready at once the lower index
goes, of two ready in turn the earlier. -/
theorem witness_candidates :
    (forming .listen).formation.reform = none ∧
      ({ station.formation with reform := some 6 } : FormationController).reform = some 6 ∧
      (after .idleTimeout State.reset).formation.roll = some 0 ∧
      (after .idleTimeout State.reset).formation.reform = none ∧
      ({ station.formation with close := some { reclose := true, bitmap := 6, epoch := 5 } } :
        FormationController).close = some { reclose := true, bitmap := 6, epoch := 5 } ∧
      work.formation.reform = none ∧ work.formation.roll = none ∧ work.formation.close = none ∧
      work.home.outbound = [{ frame := pubFrame, attempts := 0, localOrigin := false }] ∧
      asking.home.outbound = [] ∧ asking.formation = station.formation ∧
      asking.tracker.entries[(0 : Fin 8)] = some fetchEntry ∧ fetchEntry.readyTime ≤ asking.clock ∧
      ∀ j : Fin 8, j ≠ 0 → asking.tracker.entries[j] = none := by decide +kernel

/-- The station has won the arbitration point of 50000 with its FETCH. -/
def won : State :=
  { withEntry station fetchEntry with span := { station.span with tenure := .won 1 50000 (some ownFetch) } }

/-- Another station has won it. -/
def otherWon : State :=
  { station with span := { station.span with tenure := .won 2 50000 none } }

/-- The own frame begins 0.2 µs after the point; a start later than 2 µs belongs to no tenure (R98, R99). -/
theorem test_frame_start :
    (after (.frameStart ⟨50000, true⟩) won).pins.spdSince = some 50010 ∧
      (after (.frameStart ⟨50100, true⟩) otherWon).span.tenure = .frame (some 2) none ∧
      (after (.frameStart ⟨50101, true⟩) otherWon).span.tenure = .quiet ∧
      (after (.frameStart ⟨50101, true⟩) otherWon).span.lastWinner = some 2 := by decide +kernel

/-- An empty tenure makes its would-be winner the last winner (R99, R101). -/
theorem test_empty_tenure :
    (after .emptyTenureEnd otherWon).span.lastWinner = some 2 ∧ (after .emptyTenureEnd otherWon).clock = 50100 := by
  decide +kernel

/-- The latest tenure stayed empty. -/
def emptied : State := { station with span := { station.span with afterEmpty := true } }

/-- Hypotheses of `FrameStartsOrTenureStaysEmpty`: the own frame, another's at 2 µs and past it, and a quiet Span at
a synced station, at one after an empty tenure, and at an unsynced one; and an open window. -/
theorem witness_frame_start :
    (won.atRest ∧ won.pins.spdSince = none ∧ won.span.tenure = .won 1 50000 (some ownFetch)) ∧
      (otherWon.atRest ∧ otherWon.span.tenure = .won 2 50000 none ∧ max otherWon.clock 50100 ≤ 50000 + 100 ∧
        50000 + 100 < max otherWon.clock 50101) ∧
      station.atRest ∧ station.span.tenure = .quiet ∧ station.span.synced = true ∧ emptied.atRest ∧
      emptied.span.tenure = .quiet ∧ emptied.span.afterEmpty = true ∧ State.reset.atRest ∧
      State.reset.span.tenure = .quiet ∧ State.reset.span.synced = false ∧ (closing station pubFrame).atRest ∧
      (closing station pubFrame).pins.spdSince = none ∧
      (closing station pubFrame).span.tenure = .window (some 1) none (some pubFrame.bytes) := by
  simp only [atRest_iff]
  decide +kernel

/-- The start of station 2's frame was missed: SPD± is driven from 50010 on, in its tenure. -/
def missed : State := after (.frameStart ⟨50010, false⟩) otherWon

/-- A frame whose start was missed is ignored; its end and the close of its window move the tenure on, and the winner
computed is last winner (R98, R101). -/
theorem test_missed_start :
    missed.span.tenure = .won 2 50000 none ∧ missed.pins.spdSince = some 50010 ∧
      (after (.frameHeard (List.replicate 46 0)) missed).span.chk = false ∧
      (after (.frameHeard (List.replicate 46 0)) missed).pins.spdReleased = 50198 ∧
      (after (.responseWindowClose false false false []) (after (.frameHeard (List.replicate 46 0)) missed)).span.lastWinner =
        some 2 ∧
      (after (.responseWindowClose false false false []) (after (.frameHeard (List.replicate 46 0)) missed)).span.idleTimer =
        .running 50248 := by decide +kernel

/-- SPD± driven with its start missed holds the idle timer of an unsynced station, and the close of the window restarts
it (R103). -/
theorem test_missed_start_unsynced :
    (after (.frameStart ⟨9000, false⟩) State.reset).span.idleTimer = .held ∧
      (after (.responseWindowClose false false false []) (after (.frameHeard (List.replicate 14 0))
        (after (.frameStart ⟨9000, false⟩) State.reset))).span.idleTimer = .running 9110 ∧
      (after (.responseWindowClose false false false []) (after (.frameHeard (List.replicate 14 0))
        (after (.frameStart ⟨9000, false⟩) State.reset))).span.synced = false := by decide +kernel

/-- A start after an empty tenure belongs to none and is ignored (R99). -/
theorem test_start_after_empty :
    (after (.frameStart ⟨50200, true⟩) (after .emptyTenureEnd otherWon)).span.tenure = .quiet ∧
      (after (.frameStart ⟨50200, true⟩) station).span.tenure = .frame none none := by decide +kernel

/-- A frame of station 2 is on SPD±. -/
def hearing : State :=
  { station with
    pins := { station.pins with spdSince := some 50000 }
    span := { station.span with idleTimer := .held, tenure := .frame (some 2) none } }

/-- A FETCH of key 4 from station 2 to this one, with tag 17. -/
def fetchFrame : Frame := { Frame.blank .fetch 2 5 with target := 1, tag := 17, key := 4 }

/-- A FETCH for this station: ACK# and a held place; of another epoch: nothing; with a bad CRC or of another sender
than the winner: CHK# (R18, R104, R105). -/
theorem test_frame_heard :
    (after (.frameHeard fetchFrame.bytes) hearing).span.ack = true ∧
      (after (.frameHeard fetchFrame.bytes) hearing).home.heldPlace = true ∧
      (after (.frameHeard fetchFrame.bytes) hearing).clock = 50060 ∧
      (after (.frameHeard ({ fetchFrame with epoch := 6 } : Frame).bytes) hearing).span.ack = false ∧
      (after (.frameHeard (List.replicate 14 0)) hearing).span.chk = true ∧
      (after (.frameHeard ({ fetchFrame with sender := 3 } : Frame).bytes) hearing).span.chk = true := by
  decide +kernel

/-- A station that was synced by its idle timer after the arbitration point of another's tenure computed no winner. It
hears the frame from its start: it answers it, and its sender becomes last winner (R101, R104). -/
def lateHearing : State :=
  { hearing with span := { hearing.span with tenure := .frame none none } }

theorem test_just_synced :
    (after (.frameHeard fetchFrame.bytes) lateHearing).span.ack = true ∧
      (after (.frameHeard (List.replicate 14 0)) lateHearing).span.chk = true ∧
      (after (.responseWindowClose false false false []) (after (.frameHeard fetchFrame.bytes) lateHearing)).span.lastWinner =
        some 2 := by decide +kernel

theorem spanLaw_hearing (s : State) (hs : s.span = hearing.span) (hr : s.pins.resetLow = none) : SpanLaw s where
  unsynced_silent := by rw [hs]; intro h; exact nomatch h
  synced_winner := by rw [hs]; intro _ h; exact nomatch h
  won_synced := by rw [hs]; intro _ _ _ h; exact nomatch h
  frame_winner := by rw [hs]; intro _ _ _; exact ⟨rfl, fun _ => rfl⟩
  window_winner := by rw [hs]; intro _ _ _ h; exact nomatch h
  lines_in_window := by rw [hs]; intro h; exact absurd h (by decide)
  intruder_in_window := by rw [hs]; intro h; exact absurd rfl h
  intruder_driven := by rw [hs]; intro _ _ _ h; exact nomatch h
  idle_while_quiet := by rw [hs]; intro _ _; rfl
  chk_alone := by rw [hs]; intro h; exact nomatch h
  reset_releases := by simp [hr]

/-- The frame of station 2 on SPD± while the inbound queue is full, its head waiting for an outbound place. -/
def crowdedHome : State := { hearing with home := (outboundFull fullInbound).home }

/-- A full inbound queue answers RTY# and holds no place (R18). -/
theorem test_frame_heard_full :
    (after (.frameHeard fetchFrame.bytes) crowdedHome).span.rty = true ∧
      (after (.frameHeard fetchFrame.bytes) crowdedHome).span.ack = false ∧
      (after (.frameHeard fetchFrame.bytes) crowdedHome).home.heldPlace = false := by decide +kernel

/-- SPD± begins to be driven at 50010, inside the window of 50000 to 50050. -/
def intruded (heard : Bool) : State := after (.frameStart ⟨50010, heard⟩) (closing station pubFrame)

/-- Driven inside the window, SPD± holds the idle timer past the close; the frame is followed if its start was heard
(R103; notes/assumptions/29.md). -/
theorem test_driven_in_window :
    (intruded true).pins.spdSince = some 50010 ∧
      (after (.responseWindowClose false false true []) (intruded true)).span.idleTimer = .held ∧
      (after (.responseWindowClose false false true []) (intruded true)).span.tenure = .frame none none ∧
      (after (.responseWindowClose false false true []) (intruded false)).span.idleTimer = .held ∧
      (after (.responseWindowClose false false true []) (intruded false)).span.tenure = .quiet := by decide +kernel

/-- Two bytes that end inside the window have a window of their own after it, with CHK# on their byte count; the idle
timer runs from its close (R98, R103, R105; notes/assumptions/29.md). -/
theorem test_released_in_window :
    let s := after (.responseWindowClose false false true []) (after (.frameHeard [0, 0]) (intruded true))
    s.span.tenure = .window none none (some [0, 0]) ∧ s.span.chk = true ∧ s.pins.spdReleased = 50022 ∧
      s.span.idleTimer = .held ∧
      (after (.responseWindowClose false false true []) s).span.idleTimer = .running 50072 := by decide +kernel

/-- Hypotheses of `FrameEndIsAnsweredInItsWindow`: with a place and with a full inbound queue (RTY#); and the frames
not heard: in a tenure and in none, with SPD± known to be driven and not; and one inside a window. -/
theorem witness_frame_heard :
    (hearing.atRest ∧ hearing.pins.spdSince = some 50000 ∧ hearing.span.tenure = .frame (some 2) none ∧
      hearing.home.heldPlace = false ∧ hearing.home.inbound.length < 8) ∧
    SpanLaw hearing ∧ SpanLaw crowdedHome ∧
    (crowdedHome.atRest ∧ ¬ crowdedHome.home.inbound.length < 8 ∧ crowdedHome.home.heldPlace = false ∧
      fetchFrame.target = crowdedHome.pins.station ∧ fetchFrame.epoch = crowdedHome.formation.epoch) ∧
    (missed.atRest ∧ missed.span.tenure = .won 2 50000 none ∧ missed.pins.spdSince = some 50010 ∧
      otherWon.atRest ∧ otherWon.pins.spdSince = none ∧ station.atRest ∧ station.pins.spdSince = none ∧
      (after (.frameStart ⟨50200, true⟩) emptied).atRest ∧
      (after (.frameStart ⟨50200, true⟩) emptied).span.tenure = .quiet ∧
      (after (.frameStart ⟨50200, true⟩) emptied).pins.spdSince = some 50200) ∧
    ((intruded true).atRest ∧ (intruded true).span.intruder = .driven true ∧
      (intruded true).span.tenure = .window (some 1) none (some pubFrame.bytes)) := by
  refine ⟨?_, spanLaw_hearing _ rfl rfl, spanLaw_hearing _ rfl rfl, ?_, ?_, ?_⟩ <;> simp only [atRest_iff] <;>
    decide +kernel

/-- Hypothesis of `FrameBytesReadBack`, for a short frame and a long one. -/
theorem witness_frame_bytes :
    fetchFrame.long = false ∧ fetchFrame.value = zeroValue ∧ pubFrame.long = true := by decide

/-- A PUBLISH is 46 bytes and is intact; the long frame's flag byte is 5 with present and long (R113). -/
theorem test_frame_bytes :
    pubFrame.bytes.length = 46 ∧ frameIntact pubFrame.bytes = true ∧
      pubFrame.bytes.take 12 = [0xB1, 0x25, 5, 16, 4, 0, 1, 0, 8, 0, 0, 0] := by decide +kernel

/-- Rolled, with stations 0 and 1 on the roll list at proposal 7 and the close timer at 60000. -/
def rolled : State :=
  { forming .rolled with
    formation := { (forming .rolled).formation with rollList := 3, highest := 7, closeTimer := some 60000 } }

/-- A MEMBER whose re-close timer stands at 60000. -/
def reclosing : State :=
  { station with formation := { station.formation with recloseTimer := some 60000 } }

/-- The close timer queues a CLOSE of the roll list at its highest proposal; the re-close timer one of the member
bitmap at the own epoch (R122, R129). -/
theorem test_close_timers :
    (after .closeTimerExpiry rolled).formation.close = some { reclose := false, bitmap := 3, epoch := 7 } ∧
      (after .recloseTimerExpiry reclosing).formation.close = some { reclose := true, bitmap := 6, epoch := 5 } := by
  decide +kernel

/-- A CLOSE of station 2 with the member bitmap at epoch 5, and the station's own re-close of it. -/
def close5 : Frame := { Frame.blank .close 2 5 with key := 6 }

def ownReclose : OwnFrame :=
  { source := .formation .close, frame := { Frame.blank .close 1 5 with reclose := true, key := 6 } }

/-- A member whose re-close timer runs and whose re-close of the own table is queued. -/
def restating : State :=
  { reclosing with
    formation := { reclosing.formation with close := some { reclose := true, bitmap := 6, epoch := 5 } } }

/-- A CLOSE that agrees, and a re-close of another epoch with the own bit, stop the re-close; a formation CLOSE that
differs starts it again at rank 0 (R129, R131). -/
theorem test_close_at_member :
    (after (.responseWindowClose false false false []) (closing restating close5)).formation.close = none ∧
      (after (.responseWindowClose false false false []) (closing restating close5)).formation.recloseTimer = none ∧
      (after (.responseWindowClose false false false [])
        (closing restating { close5 with epoch := 9, reclose := true })).formation.recloseTimer = none ∧
      (after (.responseWindowClose false false false []) (closing reclosing { close5 with key := 7 })).formation.recloseTimer =
        some 55050 ∧
      (after (.responseWindowClose false false false []) (sending restating ownReclose)).formation.close = none := by
  decide +kernel

/-- Hypotheses of `FormationTimersQueueTheirClose`: both timers; a CLOSE that agrees, a re-close of another epoch with the
own bit, the own re-close; a formation CLOSE that differs, with a re-close queued and without. -/
theorem witness_close_timers :
    (rolled.atRest ∧ rolled.formation.closeTimer = some 60000 ∧ reclosing.atRest ∧
      reclosing.formation.recloseTimer = some 60000 ∧ reclosing.formation.state = .member) ∧
    (closing restating close5).closingFrame (some 2) none close5 ∧
    (sending restating ownReclose).closingFrame (some 1) (some ownReclose) ownReclose.frame ∧
    (closing restating { close5 with epoch := 9, reclose := true }).closingFrame (some 2) none
      { close5 with epoch := 9, reclose := true } ∧
    (closing restating { close5 with key := 7 }).closingFrame (some 2) none { close5 with key := 7 } ∧
    (closing reclosing { close5 with key := 7 }).closingFrame (some 2) none { close5 with key := 7 } ∧
    (close5.code = 2 ∧ close5.long = false ∧ close5.epoch = restating.formation.epoch ∧
      (∀ n : Station, close5.key.getLsbD n.toNat = true ↔ ∃ m ∈ restating.formation.members, m.station = n) ∧
      (close5.key.getLsbD restating.pins.station.toNat = true) ∧
      ¬ (∀ n : Station, (7 : StationSet).getLsbD n.toNat = true ↔
        ∃ m ∈ restating.formation.members, m.station = n)) := by
  refine ⟨?_, ?_, ?_, ?_, ?_, ?_, ?_⟩
  · simp only [atRest_iff]; decide +kernel
  · rw [closingFrame_iff]; decide +kernel
  · rw [closingFrame_iff]; decide +kernel
  · rw [closingFrame_iff]; decide +kernel
  · rw [closingFrame_iff]; decide +kernel
  · rw [closingFrame_iff]; decide +kernel
  · refine ⟨rfl, rfl, rfl, by decide +kernel, by decide +kernel, by decide +kernel⟩

/-! ## Notices -/

/-- A delivery takes the head of the fired list, re-arms an every watch, and the notice carries its fields (R165,
R166). -/
theorem test_notice :
    (after (.noticeDelivery 0) (withWatch station 0 fired3)).port.completions =
        [.notice { reason := .changed, key := 3, cookie := 5, origin := 2, record := present 8 6 }] ∧
      (after (.noticeDelivery 0) (withWatch station 0 fired3)).watch.entries[0] = armed3 ∧
      (after (.noticeDelivery 0) (withWatch station 0 fired3)).watch.fired = [] := by decide +kernel

/-- A station with a FIRED watch and no unreserved space. -/
def noSpace : State :=
  { withWatch station 0 fired3 with
    port := { station.port with completions := List.replicate 32 (.completion done) } }

/-- Hypotheses of `NoticeIsDeliveredIntoFreeSpace`: space, no space, nothing fired. -/
theorem witness_notice :
    ((withWatch station 0 fired3).ready ∧ (withWatch station 0 fired3).watch.fired = [0] ∧
        (withWatch station 0 fired3).port.completions.length + (withWatch station 0 fired3).port.outstanding < 32) ∧
      (noSpace.ready ∧ 32 ≤ noSpace.port.completions.length + noSpace.port.outstanding) ∧
      station.ready ∧ station.watch.fired = [] := by
  simp only [ready_iff]
  decide +kernel

/-! ## The close of the response window -/

/-- A voided frame sets the last winner and nothing else (R101, R106). -/
theorem test_voided :
    (after (.responseWindowClose false false true []) (closing station pubFrame)).span.lastWinner = some 1 ∧
      (after (.responseWindowClose false false true []) (closing station pubFrame)).copies = station.copies := by
  decide +kernel

/-- A ROLL of station 0 with proposal 7. -/
def roll0 : Frame := { Frame.blank .roll 0 7 with aux := 7 }

/-- The station's own REFORM of epoch 6, queued. -/
def ownReform (epoch : Epoch) : OwnFrame := { source := .formation .reform, frame := Frame.blank .reform 1 epoch }

def reforming : State :=
  { station with formation := { station.formation with reform := some 6, reformTags := [9] } }

/-- A voided REFORM of the station's own stays its candidate (R112, R134). -/
theorem test_own_formation_voided :
    (after (.responseWindowClose false false true []) (sending reforming (ownReform 6))).formation =
      reforming.formation := by decide +kernel

/-- An EXCLUDED station notes the epoch of a frame whose window closes without CHK#, taken or not (R133). -/
theorem test_heard_epoch :
    (after (.responseWindowClose false false false [])
        (closing (forming .excluded) { fetchFrame with epoch := 9 })).formation.epoch = 9 ∧
      (after (.responseWindowClose false false true [])
        (closing (forming .excluded) { fetchFrame with epoch := 9 })).formation.epoch = 5 := by decide +kernel

/-- The window of a frame not heard, in a tenure and in none. -/
def unheard (winner : Option Station) : State :=
  { station with span := { station.span with idleTimer := .held, tenure := .window winner none none } }

/-- Hypotheses of `UntakenFrameTouchesNoBlock`: CHK#, a frame that is not intact, a FETCH without an answer, the own
REFORM voided, an unsynced station; a window not heard; none open; and an EXCLUDED station. -/
theorem witness_untaken :
    ((closing station pubFrame).atRest ∧ station.span.synced = true ∧ station.formation.state ≠ .excluded ∧
        (closing station pubFrame).span.intruder = .absent ∧
        (closing station pubFrame).span.tenure = .window (some 1) none (some pubFrame.bytes)) ∧
      (frameIntact (List.replicate 14 0) = false ∧
        (closing station fetchFrame).atRest ∧ (Frame.ofBytes fetchFrame.bytes).code = 8 ∧
        (closing station fetchFrame).span.ack = false ∧ (closing station fetchFrame).span.intruder = .absent) ∧
      ((sending reforming (ownReform 6)).atRest ∧ (ownReform 6).frame.code = 3 ∧
        (sending reforming (ownReform 6)).span.intruder = .absent ∧
        (closing State.reset roll0).atRest ∧ State.reset.span.synced = false ∧
        (closing State.reset roll0).span.intruder = .absent ∧
        frameIntact roll0.bytes = true) ∧
      ((unheard (some 2)).atRest ∧ (unheard none).atRest ∧ (unheard none).span.intruder = .absent ∧
        (unheard (some 2)).span.intruder = .absent ∧ station.atRest ∧ station.span.tenure = .quiet ∧
        ¬ station.span.idleTimer = .held ∧ ¬ station.clock < station.pins.spdReleased + 50 ∧
        station.pins.spdSince = none ∧
        ({ station with span := { station.span with idleTimer := .held } } : State).atRest) ∧
      ((closing (forming .excluded) { fetchFrame with epoch := 9 }).atRest ∧
        (forming .excluded).span.synced = true ∧ frameIntact ({ fetchFrame with epoch := 9 } : Frame).bytes = true ∧
        (closing (forming .excluded) { fetchFrame with epoch := 9 }).span.intruder = .absent ∧
        (Frame.ofBytes ({ fetchFrame with epoch := 9 } : Frame).bytes).code ≠ 3) := by
  simp only [atRest_iff]
  decide +kernel

/-- A FETCH of station 2 for station 3, acknowledged, shows that station 2 is alive; of another epoch it shows nothing,
as a PUBLISH of another epoch changes no copy (R107 to R109). -/
theorem test_not_for_this_station :
    (after (.responseWindowClose true false false []) (closing station { fetchFrame with target := 3 })).formation.find 2 =
        some { member 2 1 .up 0 with evidenceAt := some 50050 } ∧
      (after (.responseWindowClose true false false []) (closing station { fetchFrame with epoch := 6 })).formation =
        station.formation ∧
      (after (.responseWindowClose false false false [])
        (closing (withCopy station .valid 4 (present 7 1)) { pubFrame with sender := 2, epoch := 6 })).copies[4][0].record =
        present 7 1 := by decide +kernel

/-- Hypotheses of the last clause of `UntakenFrameTouchesNoBlock`, for those three frames; of its first clause at an
EXCLUDED station: CHK#, a frame that is not intact, and its own REFORM voided. -/
theorem witness_filtered :
    ((closing station { fetchFrame with target := 3 }).closingWindow (some 2) { fetchFrame with target := 3 } ∧
        (closing station { fetchFrame with epoch := 6 }).closingWindow (some 2) { fetchFrame with epoch := 6 } ∧
        (closing station { pubFrame with sender := 2, epoch := 6 }).closingWindow (some 2)
          { pubFrame with sender := 2, epoch := 6 }) ∧
      ((closing (forming .excluded) { fetchFrame with epoch := 9 }).atRest ∧
        (forming .excluded).formation.state = .excluded ∧
        ({ forming .excluded with
          span := { station.span with idleTimer := .held, tenure := .window (some 2) none (some [0, 0]) } } : State).atRest ∧
        frameIntact [0, 0] = false ∧ (sending (forming .excluded) (ownReform 6)).atRest ∧
        (sending (forming .excluded) (ownReform 6)).span.intruder = .absent ∧
        (forming .excluded).span.intruder = .absent) := by
  refine ⟨⟨by rw [closing_iff]; decide +kernel, by rw [closing_iff]; decide +kernel,
    by rw [closing_iff]; decide +kernel⟩, ?_⟩
  simp only [atRest_iff]
  decide +kernel

/-- A place is held for the FETCH, and ACK# driven. -/
def holding : State :=
  { closing station fetchFrame with
    span := { (closing station fetchFrame).span with ack := true }
    home := { station.home with heldPlace := true } }

/-- A taken FETCH joins the inbound queue (R15, R19). -/
theorem test_taken_request :
    (after (.responseWindowClose false false false []) holding).home.inbound = [fetchOf 4] ∧
      (after (.responseWindowClose false false false []) holding).home.heldPlace = false := by decide +kernel

/-- Hypotheses of `TakenRequestJoinsTheInboundQueue`, for a FETCH and an UPDATE. -/
theorem witness_taken_request :
    holding.atRest ∧ holding.span.intruder = .absent ∧ holding.span.synced = true ∧ holding.formation.state = .member ∧
      holding.span.tenure = .window (some 2) none (some fetchFrame.bytes) ∧ fetchFrame.value = zeroValue ∧
      holding.home.heldPlace = true ∧ holding.span.chk = false ∧ holding.span.ack = true ∧
      fetchFrame.epoch = holding.formation.epoch ∧ fetchFrame.code = 8 ∧
      (fetchFrame.withUpdate add3).aux = Op.add.code ∧ (fetchFrame.withUpdate add3).long = true := by
  simp only [atRest_iff]
  decide +kernel

/-- The window of the station's own FETCH. -/
def asked : State := sending (withEntry station fetchEntry) ownFetch

/-- Taken: SENT with a deadline of 1 ms. RTY: one retry, ready after 20 µs. No answer: one attempt (R79 to R81). -/
theorem test_request_sent :
    (after (.responseWindowClose true false false []) asked).tracker.entries[0] =
        some { fetchEntry with state := .sent, deadline := some 100050 } ∧
      (after (.responseWindowClose false true false []) asked).tracker.entries[0] =
        some { fetchEntry with retries := 1, readyTime := 51050 } ∧
      (after (.responseWindowClose false false false []) asked).tracker.entries[0] =
        some { fetchEntry with attempts := 1, readyTime := 50050 } := by decide +kernel

/-- The station heard its FETCH back changed and drives CHK#. -/
def garbled : State :=
  { asked with
    span := { asked.span with
      tenure := .window (some 1) (some ownFetch) (some (ownFetch.frame.bytes.set 4 7))
      chk := true } }

/-- Heard back changed, the send counts as voided; a released entry takes no outcome, and an ACK# still shows that the
target is alive (R82, R104, R109, R111). -/
theorem test_request_garbled :
    (after (.responseWindowClose true false false []) garbled).tracker.entries[0] =
        some { fetchEntry with attempts := 1, readyTime := 50050, lastVoided := true } ∧
      (after (.responseWindowClose true false false []) (sending station ownFetch)).tracker = station.tracker ∧
      (after (.responseWindowClose true false false []) (sending station ownFetch)).formation.find 2 =
        some { member 2 1 .up 0 with evidenceAt := some 50050 } := by decide +kernel

/-- Hypotheses of `RequestSendOutcomeIsCounted`: the frame heard as sent, heard changed, and its entry released. -/
theorem witness_request_sent :
    (asked.atRest ∧ asked.span.intruder = .absent ∧ asked.span.synced = true ∧ asked.formation.state = .member ∧ asked.home.heldPlace = false ∧
        ownFetch.source = .request 0 fetchEntry.tag ∧ ownFetch.frame.code = 8 ∧ ownFetch.frame.value = zeroValue ∧
        ownFetch.frame.sender = asked.pins.station ∧ frameIntact ownFetch.frame.bytes = true ∧
        asked.span.tenure = .window (some 1) (some ownFetch) (some ownFetch.frame.bytes) ∧
        asked.span.ack = false ∧ asked.span.rty = false ∧ asked.span.chk = false ∧
        asked.tracker.entries[(0 : Fin 8)] = some fetchEntry) ∧
      (garbled.atRest ∧ garbled.span.intruder = .absent ∧ garbled.span.chk = true ∧ garbled.tracker.entries[(0 : Fin 8)] = some fetchEntry) ∧
      ((sending station ownFetch).atRest ∧ (sending station ownFetch).span.intruder = .absent ∧
        (sending station ownFetch).tracker.entries[(0 : Fin 8)] = none) := by
  simp only [atRest_iff]
  decide +kernel

/-- The DATA that answers the FETCH of key 3, at version 8. -/
def dataOf3 : Frame :=
  { Frame.blank .data 2 5 with
    target := 1, tag := 8, key := 3, present := true, long := true, version := 8, value := v 6 }

/-- The FETCH is in flight and its DATA's window is open. -/
def fetching (st : CopyState) (version : Version) : State :=
  closing (withCopy (withEntry station sentEntry) st 3 (present version 1)) dataOf3

/-- A DATA fills the copy and completes its READ; a copy at a higher version stays and gives the record (R49,
R50). -/
theorem test_taken_data :
    (after (.responseWindowClose true false false []) (fetching .filling 0)).copies[3][0] =
        { state := .valid, key := 3, record := present 8 6, age := 0 } ∧
      (after (.responseWindowClose true false false []) (fetching .filling 0)).port.completions =
        [.completion (readCompletion 8 3 (present 8 6))] ∧
      (after (.responseWindowClose true false false []) (fetching .valid 9)).port.completions =
        [.completion (readCompletion 8 3 (present 9 1))] := by decide +kernel

/-- A record that joins the queue inside an SPI transaction: at 50050, between the fall of CS# at 50040 and its rise. -/
def joined : State := after (.responseWindowClose true false false []) (fetching .filling 0)

/-- The status byte is that of the fall, the head of the completion queue and the status record those of the end of the
code byte (R168, R172, R173). -/
theorem test_inside_transaction :
    (after (.pop ⟨50040, 50200⟩ 44 50045) joined).port.completions = joined.port.completions ∧
      (after (.pop ⟨50040, 50200⟩ 44 50045) joined).port.sdo = 0x09 :: List.replicate 44 0 ∧
      (after (.pop ⟨50040, 50200⟩ 44 50050) joined).port.completions = [] ∧
      (after (.pop ⟨50040, 50200⟩ 2 50050) joined).port.sdo = [0x09, 1, 8] ∧
      ((after (.stat ⟨⟨50040, 50200⟩, 50045⟩ 16) joined).port.sdo.getD 10 9 = 0 ∧
        (after (.stat ⟨⟨50040, 50200⟩, 50050⟩ 16) joined).port.sdo.getD 10 9 = 1) := by decide +kernel

/-- An UPDATE of key 3 taken by its home, for a COMMIT of slot 0. -/
def sentUpdate : PendingEntry := { commitEntry with state := .sent, deadline := some 100000 }

/-- A REFUSE of reason 1 that answers it, with the committed version 9. -/
def refuse3 : Frame := { Frame.blank .refuse 2 5 with target := 1, tag := 8, key := 3, aux := 1, version := 9 }

/-- A matching REFUSE ends its entry with reason and version and empties the slot; one of another tag changes nothing
(R83, R85). -/
theorem test_taken_refuse :
    let s : State := withSlot (withEntry station sentUpdate) 0 (slotOn .committing)
    (after (.responseWindowClose true false false []) (closing s refuse3)).port.completions =
        [.completion
          { hostTag := 8, outcome := .versionMismatch, key := 3, version := 9, present := false, value := none }] ∧
      (after (.responseWindowClose true false false []) (closing s refuse3)).slots[0] = slotOn .empty ∧
      (after (.responseWindowClose true false false []) (closing s { refuse3 with tag := 16 })).tracker = s.tracker ∧
      (after (.responseWindowClose true false false []) (closing s { refuse3 with tag := 16 })).port.completions = [] := by
  decide +kernel

/-- Hypotheses of `TakenDataCompletesItsFetch`, with a FILLING copy and with a newer one; a REFUSE of an UPDATE and of a
FETCH; and a DATA for another station, of another epoch, and of another tag. -/
theorem witness_taken_data :
    ((fetching .filling 0).closingWindow (some 2) dataOf3 ∧ (fetching .valid 9).closingWindow (some 2) dataOf3 ∧
      TrackerLaw (fetching .valid 9)) ∧
      ((fetching .valid 9).span.synced = true ∧ (fetching .valid 9).formation.state = .member ∧
        dataOf3.code = 10 ∧ dataOf3.epoch = (fetching .valid 9).formation.epoch ∧
        dataOf3.target = (fetching .valid 9).pins.station ∧
        (fetching .valid 9).tracker.entries[(0 : Fin 8)] = some sentEntry ∧ sentEntry.state = .sent ∧
        sentEntry.tag = dataOf3.tag ∧ sentEntry.key = dataOf3.key ∧ sentEntry.home = dataOf3.sender) ∧
      ((closing (withEntry station sentUpdate) refuse3).closingWindow (some 2) refuse3 ∧
        TrackerLaw (closing (withEntry station sentUpdate) refuse3) ∧ refuse3.code = 12 ∧ refuse3.aux = 1 ∧
        sentUpdate.kind = .update ∧
        (closing (withEntry station sentEntry) { refuse3 with aux := 3 }).closingWindow (some 2)
          { refuse3 with aux := 3 } ∧ sentEntry.kind = .fetch) ∧
      ((closing (withEntry station sentEntry) { dataOf3 with target := 3 }).closingWindow (some 2)
          { dataOf3 with target := 3 } ∧
        (closing (withEntry station sentEntry) { dataOf3 with epoch := 6 }).closingWindow (some 2)
          { dataOf3 with epoch := 6 } ∧
        (closing (withEntry station sentEntry) { dataOf3 with tag := 16 }).closingWindow (some 2)
          { dataOf3 with tag := 16 } ∧ sentEntry.tag ≠ 16) := by
  refine ⟨⟨by rw [closing_iff]; decide +kernel, by rw [closing_iff]; decide +kernel, ?_⟩, by decide +kernel,
    ⟨by rw [closing_iff]; decide +kernel, ?_, by decide, by decide, by decide, by rw [closing_iff]; decide +kernel,
      by decide⟩, by rw [closing_iff]; decide +kernel, by rw [closing_iff]; decide +kernel,
    by rw [closing_iff]; decide +kernel, by decide⟩
  · exact trackerLaw_single _ sentEntry rfl (by decide +kernel) (by decide) (by decide +kernel)
  · exact trackerLaw_single _ sentUpdate rfl (by decide +kernel) (by decide) (by decide +kernel)

/-- A PUBLISH of key 3 by its home, for a write of station 2. -/
def publish3 : Frame :=
  { Frame.blank .publish 2 5 with
    target := 2, tag := 16, key := 3, present := true, long := true, aux := 1, version := 8, value := v 6 }

/-- A copy, a HELD slot and a watch of key 3 when it is published. -/
def publishing3 : State :=
  closing (withWatch (withSlot (withCopy station .valid 3 (present 7 1)) 1 (slotOn .held)) 0 armed3) publish3

/-- The copy moves to version 8, the slot is LOST, the watch fires (R53, R65, R161). -/
theorem test_taken_publish :
    (after (.responseWindowClose false false false []) publishing3).copies[3][0] =
        { state := .valid, key := 3, record := present 8 6, age := 0 } ∧
      (after (.responseWindowClose false false false []) publishing3).slots[1] = slotOn .lost ∧
      (after (.responseWindowClose false false false []) publishing3).watch.entries[0] = fired3 := by decide +kernel

/-- A COMMIT of slot 0, HELD on key 3, waits at the head for a pending entry. -/
def waitingCommit : State :=
  let s : State := withHead (withSlot fullTable 0 (slotOn .held)) (command .commit 0)
  { s with engine := { headStatus := .waiting, fenceWait := false } }

/-- The PUBLISH that loses its slot decides it: it is tested again and completes LOST (R65, R139, R140, R150). -/
theorem test_commit_retested :
    (after (.responseWindowClose false false false []) (closing waitingCommit publish3)).engine.headStatus = .testing ∧
      (after .commit (after (.responseWindowClose false false false []) (closing waitingCommit publish3))).port.completions =
        [.completion (plainRecord (command .commit 0) 3 .lost 7)] := by decide +kernel

/-- A FETCH of a RESERVE of slot 1, its copy FILLING, when its key is published. -/
def reserveEntry : PendingEntry := { sentEntry with command := .reserve, slot := some 1 }

def filled : State := closing (withCopy (withEntry station reserveEntry) .filling 3 .cleared) publish3

/-- The station's own COMMIT of slot 0 published by its home. -/
def originPublish : Frame := { publish3 with target := 1, tag := 8 }

def originated : State := closing (withSlot (withEntry station sentUpdate) 0 (slotOn .committing)) originPublish

/-- A PUBLISH completes the FETCH of a FILLING copy, the RESERVE's slot HELD, and the origin's COMMIT OK, its slot EMPTY
(R52, R66, R69, R86, R87). -/
theorem test_publish_completes :
    (after (.responseWindowClose false false false []) filled).port.completions =
        [.completion (readCompletion 8 3 (present 8 6))] ∧
      (after (.responseWindowClose false false false []) filled).slots[1] = { state := .held, key := 3, version := 8 } ∧
      (after (.responseWindowClose false false false []) originated).port.completions =
        [.completion { hostTag := 8, outcome := .ok, key := 3, version := 8, present := true, value := none }] ∧
      (after (.responseWindowClose false false false []) originated).slots[0] = slotOn .empty := by decide +kernel

theorem watchLaw_none (s : State) (h : s.watch = WatchUnit.afterReset) : WatchLaw s where
  fired_once := by rw [h]; decide +kernel
  fired_listed := by rw [h]; decide +kernel
  key_once := by rw [h]; decide +kernel
  armed_clear := by rw [h]; decide +kernel
  free_cleared := by rw [h]; decide +kernel

theorem trackerLaw_none (s : State) (h : s.tracker = RequestTracker.afterReset)
    (hc : ∀ n : Fin 4, s.slots[n].state ≠ .committing) : TrackerLaw s := by
  have none : ∀ i : Fin 8, s.tracker.entries[i] = none := by rw [h]; decide +kernel
  refine ⟨?_, ?_, ?_, ?_⟩
  · intro i e hi; rw [none i] at hi; exact nomatch hi
  · intro i _ e _ hi; rw [none i] at hi; exact nomatch hi
  · intro i _ e _ _ hi; rw [none i] at hi; exact nomatch hi
  · intro n hn; exact absurd hn (hc n)

/-- Hypotheses of `TakenPublishReachesEveryBlock`, with a watched key and no entry, and with the entry it ends: a FETCH
and the origin's UPDATE. -/
theorem witness_taken_publish :
    (publishing3.closingWindow (some 2) publish3 ∧ CopyLaw publishing3 ∧ WatchLaw publishing3 ∧ TrackerLaw publishing3) ∧
      (publishing3.span.synced = true ∧ publishing3.formation.state = .member ∧ publish3.code = 11 ∧
        publish3.epoch = publishing3.formation.epoch ∧ publishing3.watch.entries[0].state ≠ .free ∧
        publishing3.watch.entries[0].key = publish3.key) ∧
      (filled.closingWindow (some 2) publish3 ∧ CopyLaw filled ∧ WatchLaw filled ∧ TrackerLaw filled ∧
        filled.tracker.entries[(0 : Fin 8)] = some reserveEntry ∧ filled.endsAtPublish publish3 reserveEntry) ∧
      (originated.closingWindow (some 2) originPublish ∧ WatchLaw originated ∧
        originated.tracker.entries[(0 : Fin 8)] = some sentUpdate ∧
        originated.endsAtPublish originPublish sentUpdate) := by
  refine ⟨⟨by rw [closing_iff]; decide +kernel, copyLaw_single .valid (by decide) (present 7 1), ?_, ?_⟩, by decide +kernel,
    ⟨by rw [closing_iff]; decide +kernel, copyLaw_single .filling (by decide) .cleared, watchLaw_none _ rfl, ?_, rfl, ?_⟩,
    by rw [closing_iff]; decide +kernel, watchLaw_none _ rfl, rfl, ?_⟩
  · exact ⟨by decide +kernel, by decide +kernel, by decide +kernel, by decide +kernel, by decide +kernel⟩
  · exact trackerLaw_none _ rfl (by decide +kernel)
  · exact trackerLaw_single _ reserveEntry rfl (by decide +kernel) (by decide) (by decide +kernel)
  · exact ⟨rfl, .inl ⟨rfl, 3, 0, by decide +kernel, by decide +kernel⟩⟩
  · exact ⟨rfl, .inr ⟨rfl, rfl, .inl ⟨rfl, rfl, rfl⟩⟩⟩

/-- The window of the station's own PUBLISH. -/
def published : State := sending { station with home := pubHome } { source := .outbound, frame := pubFrame }

/-- Taken, the PUBLISH commits; voided, it stays at the head with one attempt (R31, R32). -/
theorem test_own_publish :
    (after (.responseWindowClose false false false []) published).committed 4 = present 8 6 ∧
      (after (.responseWindowClose false false false []) published).publishing 4 = false ∧
      (after (.responseWindowClose false false false []) published).home.outbound = [] ∧
      (after (.responseWindowClose false false true []) published).home.outbound.map OutboundEntry.attempts =
        [1] := by decide +kernel

/-- A READ of key 4 waits for its mark, and an UPDATE of key 4 behind the mark at the inbound head. -/
def bothWaiting : State :=
  let s : State := withHead published (command .read 4)
  { s with
    engine := { headStatus := .waiting, fenceWait := false }
    home := { pubHome with
      inbound :=
        [{ source := .span
           request := .update { op := .write, expected := 0, wordIndex := 0, value := v 9 }
           key := 4
           requester := 2
           tag := 24 }] } }

/-- At the taken PUBLISH the READ is served with the new record, and the inbound head marks the key again (R34, R21;
notes/assumptions/27.md). -/
theorem test_read_before_inbound :
    (after (.responseWindowClose false false false []) bothWaiting).settle.port.completions =
        [.completion (readCompletion 9 4 (present 8 6))] ∧
      (after (.responseWindowClose false false false []) bothWaiting).settle.publishing 4 = true ∧
      (after (.responseWindowClose false false false []) bothWaiting).settle.home.inbound = [] := by decide +kernel

/-- An UNWATCH of key 3 waits for the pending entry that a taken PUBLISH of key 3 ends; its watch is ARMED. -/
def unwatching : State :=
  { withWatch (withHead filled (command .unwatch 3)) 0 armed3 with
    engine := { headStatus := .waiting, fenceWait := false } }

/-- At the taken PUBLISH the watch fires and the UNWATCH acts before the notice is delivered: only the two completions
are queued (R160, R164; notes/assumptions/30.md). -/
theorem test_unwatch_before_notice :
    let s := after (.responseWindowClose false false false []) unwatching
    s.watch.fired = [0] ∧ s.settle.watch.fired = [] ∧ s.settle.watch.entries[0].state = .free ∧
      s.settle.port.completions.length = 2 := by decide +kernel

/-- Station 2 has three silences; every watch is in use, a one-shot one of key 3 among them, and a WATCH of key 5
waits for a pending entry of that key. -/
def watchWaiting : State :=
  let s := withHead silent3 (command .watch 5)
  { s with
    tracker := { s.tracker with entries := s.tracker.entries.set 0 (some { sentEntry with key := 5 }) }
    engine := { headStatus := .waiting, fenceWait := false }
    watch := { watchFull.watch with entries := watchFull.watch.entries.set 0 { armed3 with every := false } } }

/-- At the one event that fires the one-shot watch and ends the entry, the WATCH acts before the delivery frees an
entry and completes WATCH_FULL; with NOTICE_DELIVERY commanded first it is armed in that entry (R159, R165;
notes/assumptions/30.md). -/
theorem test_watch_before_delivery :
    let s := after (.memberSilent 2 []) watchWaiting
    s.watch.entries[0].state = .fired ∧
      s.settle.port.completions[1]? = some (.completion (plainRecord (command .watch 5) 5 .watchFull 0)) ∧
      s.settle.watch.entries[0].state = .free ∧
      (after (.noticeDelivery 0) s).settle.watch.entries[0].key = 5 := by decide +kernel

/-- The window of the station's own DATA for station 2. -/
def ownData : Frame :=
  { Frame.blank .data 1 5 with
    target := 2, tag := 17, key := 4, present := true, long := true, version := 7, value := v 5 }

def answering : State :=
  sending { station with home := { station.home with outbound := [{ frame := ownData, attempts := 3, localOrigin := false }] } }
    { source := .outbound, frame := ownData }

/-- A taken DATA leaves the outbound queue; answered RTY# alone it counts an attempt and stays (R29, R30). -/
theorem test_own_data :
    (after (.responseWindowClose true false false []) answering).home.outbound = [] ∧
      (after (.responseWindowClose false true false []) answering).home.outbound.map OutboundEntry.attempts = [4] ∧
      (after (.responseWindowClose false true true []) answering).home.outbound.map OutboundEntry.attempts = [4] := by
  decide +kernel

/-- Hypotheses of `OwnPublishCommitsOrIsResent`: a PUBLISH, with the laws that its `PublishTaken` asks for; and a DATA. -/
theorem witness_own_publish :
    published.atRest ∧ HomeLaw published ∧ CopyLaw { published with copies := (fullGroup .valid) } ∧
      WatchLaw published ∧ TrackerLaw published ∧
      (published.span.synced = true ∧ published.formation.state = .member ∧ published.home.heldPlace = false ∧
        published.span.chk = false ∧ published.span.intruder = .absent ∧
        published.home.outbound = [{ frame := pubFrame, attempts := 0, localOrigin := false }] ∧
        pubFrame.code = 11 ∧ pubFrame.long = true ∧ pubFrame.epoch = published.formation.epoch ∧
        published.span.tenure =
          .window (some 1) (some { source := .outbound, frame := pubFrame }) (some pubFrame.bytes)) ∧
      (answering.atRest ∧ answering.span.intruder = .absent ∧ answering.span.ack = false ∧ answering.span.rty = false ∧ ownData.code = 10 ∧
        ownData.sender = answering.pins.station ∧ ownData.target ≠ answering.pins.station ∧
        answering.span.tenure =
          .window (some 1) (some { source := .outbound, frame := ownData }) (some ownData.bytes) ∧
        frameIntact ownData.bytes = true ∧ answering.home.heldPlace = false) :=
  ⟨by rw [atRest_iff]; decide +kernel, homeLaw_pub _ rfl, fullGroup_lawful _ (.inr rfl), watchLaw_none _ rfl,
    trackerLaw_none _ rfl (by decide +kernel), by decide +kernel, by rw [atRest_iff]; decide +kernel⟩

/-- The roller joins the list; the close timer restarts at 6 ms + 0.5 ms for the one lower station (R121, R122). -/
theorem test_taken_roll :
    (after (.responseWindowClose false false false []) (closing (forming .rolled) roll0)).formation.rollList = 1 ∧
      (after (.responseWindowClose false false false []) (closing (forming .rolled) roll0)).formation.highest = 7 ∧
      (after (.responseWindowClose false false false []) (closing (forming .rolled) roll0)).formation.closeTimer =
        some 375050 := by decide +kernel

/-- A formation CLOSE of stations 1 and 2 at epoch 7, and a re-close. -/
def close12 (reclose : Bool) : Frame := { Frame.blank .close 2 7 with reclose := reclose, key := 6 }

/-- Adoption: a MEMBER of epoch 7 with two UP members; a station not in the bitmap is EXCLUDED (R124). -/
theorem test_adopted_close :
    (after (.responseWindowClose false false false []) (closing rolled (close12 false))).formation.members =
        membersOf 6 ∧
      (after (.responseWindowClose false false false []) (closing rolled (close12 false))).formation.state =
        .member ∧
      (after (.responseWindowClose false false false [])
        (closing rolled { close12 false with key := 5 })).formation.state = .excluded := by decide +kernel

/-- The member table of bitmap hex 8006: stations 1, 2 and 15 at ranks 0, 1 and 2 (R125). -/
theorem test_member_table :
    membersOf 0x8006 =
      [member 1 0 .up 0,
        member 2 1 .up 0,
        member 15 2 .up 0] := by decide +kernel

theorem memberLaw_rolled (s : State) (hf : s.formation = rolled.formation) : MemberLaw s where
  table_of_member := by rw [hf]; decide +kernel
  self_listed := by rw [hf]; intro h; exact nomatch h
  stations_ascend := by rw [hf]; decide +kernel
  ranks_count := by rw [hf]; decide +kernel
  self_up := by rw [hf]; intro m hm; exact nomatch hm
  silence_bounded := by rw [hf]; decide +kernel
  silent_at_three := by rw [hf]; decide +kernel
  close_timer_rolled := by rw [hf]; decide +kernel
  reclose_timer_member := by rw [hf]; decide +kernel
  roll_list_forming := by rw [hf]; decide +kernel

/-- The station's own ROLL with proposal 5, and its own CLOSE of stations 0 and 1. -/
def ownRoll : OwnFrame := { source := .formation .roll, frame := rollFrame 1 5 }

def ownClose : OwnFrame := { source := .formation .close, frame := { Frame.blank .close 1 7 with key := 3 } }

/-- A LISTEN station that a taken ROLL syncs lists the roller and queues its own ROLL (R103, R119, R121). -/
theorem test_synced_by_roll :
    (after (.responseWindowClose false false false []) (closing State.reset roll0)).span.synced = true ∧
      (after (.responseWindowClose false false false []) (closing State.reset roll0)).formation.rollList = 1 ∧
      (after (.responseWindowClose false false false []) (closing State.reset roll0)).formation.roll = some 0 := by
  decide +kernel

/-- A LISTEN station whose own ROLL is taken is ROLLED, its ROLL gone and its close timer running; its own CLOSE is
adopted (R112, R120, R124). -/
theorem test_own_forming :
    (after (.responseWindowClose false false false []) (sending (forming .listen) ownRoll)).formation.state = .rolled ∧
      (after (.responseWindowClose false false false []) (sending (forming .listen) ownRoll)).formation.closeTimer =
        some 350050 ∧
      (after (.responseWindowClose false false false []) (sending rolled ownClose)).formation.state = .member ∧
      (after (.responseWindowClose false false false []) (sending rolled ownClose)).formation.close = none := by
  decide +kernel

/-- The home of a key is the member whose rank is the key modulo P, also where it is not UP (R4). -/
theorem test_home :
    (homeless.formation.homeOf 3).map Member.station = some 2 ∧ (homeless.formation.homeOf 4).map Member.station = some 1 ∧
      homeless.ownHome 4 = true ∧ homeless.ownHome 3 = false := by decide +kernel

/-- Hypotheses of `TakenRollJoinsTheRollList` and `FormationCloseIsAdopted`: LISTEN and ROLLED stations; the own ROLL and
CLOSE; a bitmap with the station's bit and one without; and a MEMBER. -/
theorem witness_forming :
    ((closing (forming .listen) roll0).closingFrame (some 0) none roll0 ∧
        (closing State.reset roll0).closingFrame none none roll0 ∧
        (closing rolled roll0).closingFrame (some 0) none roll0 ∧
        (sending (forming .listen) ownRoll).closingFrame (some 1) (some ownRoll) ownRoll.frame ∧
        ownRoll.frame.code = 1 ∧ ownRoll.frame.long = false) ∧
      (closing rolled (close12 false)).closingFrame (some 2) none (close12 false) ∧
      (sending rolled ownClose).closingFrame (some 1) (some ownClose) ownClose.frame ∧
      MemberLaw (closing rolled (close12 false)) ∧ MemberLaw (sending rolled ownClose) ∧ MemberLaw station ∧
      (rolled.span.synced = true ∧ rolled.formation.state = .rolled ∧ roll0.code = 1 ∧
        (close12 false).code = 2 ∧ (close12 false).reclose = false ∧
        (close12 false).key.getLsbD (1 : Station).toNat = true ∧
        ({ close12 false with key := 5 } : Frame).key.getLsbD (1 : Station).toNat = false) := by
  refine ⟨⟨by rw [closingFrame_iff]; decide +kernel, by rw [closingFrame_iff]; decide +kernel,
      by rw [closingFrame_iff]; decide +kernel, by rw [closingFrame_iff]; decide +kernel, by decide, by decide⟩,
    by rw [closingFrame_iff]; decide +kernel, by rw [closingFrame_iff]; decide +kernel, memberLaw_rolled _ rfl,
    memberLaw_rolled _ rfl, memberLaw_station _ rfl rfl, by decide +kernel⟩

/-- A ROLL of station 9, a stranger, sets LATE_ROLL and starts the re-close at rank 0 (R128). -/
theorem test_late_roll :
    (after (.responseWindowClose false false false []) (closing station { roll0 with sender := 9 })).formation.lateRoll =
        true ∧
      (after (.responseWindowClose false false false [])
        (closing station { roll0 with sender := 9 })).formation.recloseTimer = some 55050 ∧
      (after (.responseWindowClose false false false [])
        (closing station { roll0 with sender := 2 })).formation.find 2 =
        some (member 2 1 .lost 0) := by decide +kernel

/-- Hypotheses of `LateRollStartsTheReclose`, for a stranger and a member. -/
theorem witness_late_roll :
    (closing station { roll0 with sender := 9 }).closingWindow (some 9) { roll0 with sender := 9 } ∧
      (closing station { roll0 with sender := 2 }).closingWindow (some 2) { roll0 with sender := 2 } ∧
      MemberLaw (closing station roll0) ∧ (9 : Station) ≠ station.pins.station ∧ roll0.code = 1 ∧
      station.formation.close = none ∧
      member 2 1 .up 0 ∈ station.formation.members :=
  ⟨by rw [closing_iff]; decide +kernel, by rw [closing_iff]; decide +kernel, memberLaw_station _ rfl rfl,
    by decide, by decide, rfl, by decide +kernel⟩

/-- Table traffic excludes a LISTEN station with the frame's epoch as heard epoch (R132). -/
theorem test_exclusion :
    (after (.responseWindowClose false false false []) (closing (forming .listen) publish3)).formation.state = .excluded ∧
      (after (.responseWindowClose false false false [])
        (closing (forming .listen) { publish3 with epoch := 9 })).formation.epoch = 9 := by decide +kernel

/-- Hypotheses of `ForeignTrafficExcludesAFormingStation`: a PUBLISH, a FETCH with ACK#, a re-close. -/
theorem witness_foreign :
    (closing (forming .listen) publish3).closingWindow (some 2) publish3 ∧ publish3.code = 11 ∧
      (closing rolled fetchFrame).closingWindow (some 2) fetchFrame ∧ fetchFrame.code = 8 ∧
      (closing rolled (close12 true)).closingWindow (some 2) (close12 true) ∧ (close12 true).reclose = true :=
  ⟨by rw [closing_iff]; decide +kernel, by decide, by rw [closing_iff]; decide +kernel, by decide,
    by rw [closing_iff]; decide +kernel, by decide⟩

/-- A re-close of the own epoch and another bitmap, and one of another epoch without the own bit. -/
def reclose (epoch : Epoch) (bitmap : StationSet) : Frame :=
  { Frame.blank .close 2 epoch with reclose := true, key := bitmap }

/-- The member at work is excluded: its entry completes NOT_MEMBER, the home record stays, its mark goes (R38,
R95). -/
theorem test_member_excluded :
    (after (.responseWindowClose false false false []) (closing { work with watch := station.watch }
        (reclose 5 7))).port.completions =
        [.completion
          { hostTag := 8, outcome := .notMember, key := 3, version := 0, present := false, value := none }] ∧
      (after (.responseWindowClose false false false []) (closing { work with watch := station.watch }
        (reclose 5 7))).committed 4 = present 7 5 ∧
      (after (.responseWindowClose false false false []) (closing { work with watch := station.watch }
        (reclose 5 7))).publishing 4 = false := by decide +kernel

/-- Hypotheses of `ExcludedMemberGivesUpItsWork`, of the own epoch and of another. -/
theorem witness_excluded :
    (closing { work with watch := station.watch } (reclose 5 7)).closingWindow (some 2) (reclose 5 7) ∧
      (closing { work with watch := station.watch } (reclose 6 4)).closingWindow (some 2) (reclose 6 4) ∧
      HomeLaw (closing { work with watch := station.watch } (reclose 5 7)) ∧
      (¬ (∀ n : Station, (7 : StationSet).getLsbD n.toNat = true ↔ ∃ m ∈ station.formation.members, m.station = n) ∧
        (6 : Epoch) ≠ station.formation.epoch ∧
        (4 : StationSet).getLsbD (1 : Station).toNat = false) :=
  ⟨by rw [closing_iff]; decide +kernel, by rw [closing_iff]; decide +kernel, homeLaw_pub _ rfl, by decide +kernel⟩

/-- A REFORM of epoch 6 by station 2. -/
def reform6 : Frame := Frame.blank .reform 2 6

/-- A taken REFORM: LISTEN at the new epoch with its ROLL queued, the home store cleared, the entry REFORMED (R135,
R14, R94). -/
theorem test_taken_reform :
    (after (.responseWindowClose false false false []) (closing { work with watch := station.watch } reform6)).formation.roll =
        some 6 ∧
      (after (.responseWindowClose false false false [])
        (closing { work with watch := station.watch } reform6)).committed 4 = .cleared ∧
      (after (.responseWindowClose false false false [])
        (closing { work with watch := station.watch } reform6)).port.completions =
        [.completion
          { hostTag := 8, outcome := .reformed, key := 3, version := 0, present := false, value := none }] := by
  decide +kernel

/-- The station's own REFORM: taken, its command completes OK with key 0 and the station is in LISTEN; its epoch come to
be the station's own, it stays queued with a fresh one (R134 to R136). -/
theorem test_own_reform :
    (after (.responseWindowClose false false false []) (sending reforming (ownReform 6))).port.completions =
        [.completion
          { hostTag := 9, outcome := .ok, key := 0, version := 0, present := false, value := none }] ∧
      (after (.responseWindowClose false false false []) (sending reforming (ownReform 6))).formation.state = .listen ∧
      (after (.responseWindowClose false false false []) (sending reforming (ownReform 6))).formation.reform = none ∧
      (after (.responseWindowClose false false false []) (sending reforming (ownReform 5))).formation = reforming.formation := by
  decide +kernel

/-- Hypotheses of `TakenReformClearsEveryBlock`, in the four station states, for the own REFORM, and for one of the
station's epoch. -/
theorem witness_reformed :
    ((closing { work with watch := station.watch } reform6).closingFrame (some 2) none reform6 ∧
      (closing (forming .listen) reform6).closingFrame (some 2) none reform6 ∧
      (closing rolled reform6).closingFrame (some 2) none reform6 ∧
      (closing (forming .excluded) reform6).closingFrame (some 2) none reform6) ∧
      (sending reforming (ownReform 6)).closingFrame (some 1) (some (ownReform 6)) (ownReform 6).frame ∧
      (sending reforming (ownReform 5)).closingFrame (some 1) (some (ownReform 5)) (ownReform 5).frame ∧
      (closing station { reform6 with epoch := 5 }).closingFrame (some 2) none { reform6 with epoch := 5 } ∧
      (reform6.code = 3 ∧ reform6.epoch ≠ station.formation.epoch ∧
        reform6.epoch ≠ (forming .excluded).formation.epoch ∧ (ownReform 5).frame.epoch = reforming.formation.epoch ∧
        reforming.span.synced = true) :=
  ⟨⟨by rw [closingFrame_iff]; decide +kernel, by rw [closingFrame_iff]; decide +kernel,
      by rw [closingFrame_iff]; decide +kernel, by rw [closingFrame_iff]; decide +kernel⟩,
    by rw [closingFrame_iff]; decide +kernel, by rw [closingFrame_iff]; decide +kernel,
    by rw [closingFrame_iff]; decide +kernel, by decide +kernel⟩

end Sys2Proof.Tests
end

section
/-! PROOFS. The Home Engine's inbound head (2.3): when it is free to be handled, what handling an update does in each
case, and the obligation about it. -/

namespace Sys2Proof.Machine

/-! ### The inbound head leaves the queue -/

theorem State.popInbound_of_cons {s : State} {q : InboundEntry} {rest : List InboundEntry}
    (h : s.home.inbound = q :: rest) :
    s.popInbound = { s with home := { s.home with inbound := rest }, engine := s.engine.retest } := by
  simp [State.popInbound, State.retest, h]

@[simp] theorem State.popInbound_ownHome (s : State) (k : Key) : s.popInbound.ownHome k = s.ownHome k := rfl
@[simp] theorem State.popInbound_committed (s : State) (k : Key) : s.popInbound.committed k = s.committed k := rfl

/-! ### When the inbound head is handled (R21) -/

theorem State.headFree_iff (s : State) (q : InboundEntry) :
    s.headFree q = true ↔
      s.formation.state = .member ∧ s.publishing q.key = false ∧ s.home.outbound.length < 8 := by
  simp only [State.headFree, Bool.and_eq_true, beq_iff_eq, Bool.not_eq_true', decide_eq_true_eq, and_assoc]
  rfl

/-- A head whose key is publishing, or whose frame finds no place in the outbound queue, waits. -/
theorem State.headFree_of_waiting {s : State} {q : InboundEntry}
    (h : s.publishing q.key = true ∨ 8 ≤ s.home.outbound.length) : s.headFree q = false := by
  rw [Bool.eq_false_iff, Ne, State.headFree_iff]
  rintro ⟨-, hfree, hroom⟩
  rcases h with hpub | hfull
  · exact absurd (hpub.symm.trans hfree) nofun
  · omega

/-- Handling an update at the head: it waits, or it leaves the queue and is answered. -/
theorem State.handleUpdate_of_head {s : State} {q : InboundEntry} {rest : List InboundEntry} {u : Update}
    (hq : s.home.inbound = q :: rest) (hu : q.request = .update u) :
    s.handleUpdate = if s.headFree q then s.popInbound.answerInboundUpdate q u else s := by
  simp [State.handleUpdate, hq, hu]

theorem exec_inboundUpdateHandled_of_ready {s : State} (h : s.ready) :
    exec .inboundUpdateHandled s = .next s.handleUpdate.refreshReq := by
  change Host.Outcome.next (s.followOn State.handleUpdate) = _
  rw [State.followOn_of_ready h]

/-! ### How the head update is answered (R23 to R26) -/

/-- An update of a key that is not own-home is refused with SPAN_FAULT (R26). -/
theorem State.answerInboundUpdate_of_foreign {s : State} {q : InboundEntry} (h : s.ownHome q.key = false)
    (u : Update) : s.answerInboundUpdate q u = s.refuse q .spanFault 0 := by
  simp [State.answerInboundUpdate, h]

theorem State.answerInboundUpdate_of_accepted {s : State} {q : InboundEntry} {u : Update} {r : TableRecord}
    (h : s.ownHome q.key = true) (hj : judge (s.committed q.key) u = .ok r) :
    s.answerInboundUpdate q u = s.acceptUpdate q u r := by
  simp [State.answerInboundUpdate, h, hj]

theorem State.answerInboundUpdate_of_refused {s : State} {q : InboundEntry} {u : Update} {reason : CmdOutcome}
    (h : s.ownHome q.key = true) (hj : judge (s.committed q.key) u = .error reason) :
    s.answerInboundUpdate q u = s.refuseUpdate q reason (s.committed q.key).version := by
  simp [State.answerInboundUpdate, h, hj]

/-- R6 has two reasons to refuse. -/
theorem judge_error {old : TableRecord} {u : Update} {reason : CmdOutcome} (h : judge old u = .error reason) :
    reason = .versionMismatch ∨ reason = .versionLimit := by
  unfold judge at h
  split at h
  · cases h; exact .inr rfl
  · split at h
    · cases h; exact .inl rfl
    · cases h

/-- The reason byte that a refusal of R6 carries (R115). -/
theorem refuseCode_of_judge_error {old : TableRecord} {u : Update} {reason : CmdOutcome}
    (h : judge old u = .error reason) :
    refuseCode reason = if reason = .versionMismatch then 1 else 2 := by
  obtain rfl | rfl := judge_error h <;> rfl

/-! ### The LOCAL entry that a tag names -/

/-- A tag names one index of the pending table, so a search for it finds the LOCAL entry that has it (R77). -/
theorem TrackerLaw.ownEntry_eq {s : State} (law : TrackerLaw s) {i : Fin 8} {e : PendingEntry}
    (he : s.tracker.entries[i] = some e) (hk : e.kind = .own) : s.tracker.ownEntry e.tag = some i := by
  refine RequestTracker.find_holds_unique he (by simp [hk]) fun j x hx hp => ?_
  obtain ⟨-, htag⟩ : x.kind = .own ∧ x.tag = e.tag := by simpa using hp
  have hi := law.tag_names_index i e he
  have hj := law.tag_names_index j x hx
  exact Fin.ext (by rw [← hi, ← hj, htag])

/-- The LOCAL entry with a tag ends with the Home Engine's outcome (R25, R33). -/
theorem State.failOwn_of_entry {s : State} {i : Fin 8} {e : PendingEntry} (he : s.tracker.entries[i] = some e)
    (hf : s.tracker.ownEntry e.tag = some i) (o : CmdOutcome) (v : Version) :
    s.failOwn e.tag o v = s.withEntryEnded i e o v := by
  simp [State.failOwn, hf, State.failEntry_of_some he]

/-- A LOCAL entry's update is refused by that entry's completion, with no frame (R25). -/
theorem State.refuseUpdate_of_own {s : State} {q : InboundEntry} {i : Fin 8} {e : PendingEntry}
    (hs : q.source = .own) (he : s.tracker.entries[i] = some e) (ht : e.tag = q.tag)
    (hf : s.tracker.ownEntry e.tag = some i) (reason : CmdOutcome) (v : Version) :
    s.refuseUpdate q reason v = s.withEntryEnded i e reason v := by
  simp only [State.refuseUpdate, hs, ← ht]
  exact State.failOwn_of_entry he hf reason v

theorem State.refuseUpdate_of_span {s : State} {q : InboundEntry} (hs : q.source = .span) (reason : CmdOutcome)
    (v : Version) : s.refuseUpdate q reason v = s.refuse q reason v := by
  simp [State.refuseUpdate, hs]

/-! ### The obligation -/

/-- Settles O34: the head waits or is answered (`State.handleUpdate_of_head`), and its answer is one of the three
cases of `State.answerInboundUpdate`. -/
theorem inboundUpdateIsDecided : Obligations.InboundUpdateIsDecided := by
  intro s q rest u hready hq hu old popped refused
  have hexec : exec .inboundUpdateHandled s = .next s.handleUpdate.refreshReq :=
    exec_inboundUpdateHandled_of_ready hready
  have hhead := State.handleUpdate_of_head hq hu
  have hpop : s.popInbound = popped := State.popInbound_of_cons hq
  refine ⟨fun hwait => ?_, fun hmember hfree hroom => ?_⟩
  · simp [hexec, hhead, State.headFree_of_waiting hwait]
  have hanswer : exec .inboundUpdateHandled s = .next (s.popInbound.answerInboundUpdate q u).refreshReq := by
    simp [hexec, hhead, (s.headFree_iff q).2 ⟨hmember, hfree, hroom⟩]
  refine ⟨fun hforeign => ?_, fun r hown hok => ?_, fun reason hown herr => ?_⟩
  · rw [hanswer, State.answerInboundUpdate_of_foreign (by simpa using hforeign), hpop]
    rfl
  · rw [hanswer, State.answerInboundUpdate_of_accepted (by simpa using hown) (by simpa using hok), hpop]
    rfl
  · have hrefuse : exec .inboundUpdateHandled s =
        .next (s.popInbound.refuseUpdate q reason old.version).refreshReq := by
      rw [hanswer, State.answerInboundUpdate_of_refused (by simpa using hown) (by simpa using herr)]
      rfl
    refine ⟨judge_error herr, fun hspan => ?_, fun i e law hsource he hkind htag => ?_⟩
    · rw [hrefuse, State.refuseUpdate_of_span hspan, hpop, ← refuseCode_of_judge_error herr]
      rfl
    · rw [hrefuse, State.refuseUpdate_of_own hsource (by simpa using he) htag
        (by simpa using law.ownEntry_eq he hkind), hpop]

end Sys2Proof.Machine
end

section
/-! PROOFS. The Copy Table's searches and operations, way by way, in a group that meets the laws of R39 to R42: the
layer that the statements about READ, DROP and DATA stand on. -/

namespace Sys2Proof.Machine

/-! ### The way of a key -/

/-- A way is occupied when it is FILLING or VALID (R39). -/
theorem CopyEntry.occupied_iff {e : CopyEntry} : e.occupied = true ↔ e.state ≠ .free := by
  simp [CopyEntry.occupied]

/-- In a lawful group a key has one way, which a search for it finds (R40). -/
theorem GroupLaw.wayOf_eq {i : Fin 64} {g : CopyGroup} (law : GroupLaw i g) {k : Key} {w : Fin 4}
    (ho : g[w].state ≠ .free) (hk : g[w].key = k) : g.wayOf k = some w := by
  have ho : g[w].occupied = true := CopyEntry.occupied_iff.2 ho
  cases h : g.wayOf k with
  | none => exact absurd hk (CopyGroup.wayOf_none h w ho)
  | some v =>
    obtain ⟨hv, hvk⟩ := CopyGroup.wayOf_spec h
    rw [law.key_once v w hv ho (hvk.trans hk.symm)]

theorem CopyGroup.wayOf_eq_none {g : CopyGroup} {k : Key} (h : ∀ w : Fin 4, g[w].state ≠ .free → g[w].key ≠ k) :
    g.wayOf k = none := by
  cases hw : g.wayOf k with
  | none => rfl
  | some w =>
    obtain ⟨ho, hk⟩ := CopyGroup.wayOf_spec hw
    exact absurd hk (h w (CopyEntry.occupied_iff.1 ho))

/-- The entry of a key is the content of its way (R39, R40). -/
theorem CopyTable.entry_eq_some_iff {t : CopyTable} {k : Key} (law : GroupLaw (groupOf k) t[groupOf k])
    (e : CopyEntry) :
    t.entry k = some e ↔ ∃ w : Fin 4, t[groupOf k][w] = e ∧ e.state ≠ .free ∧ e.key = k := by
  rw [CopyTable.entry, Option.map_eq_some_iff]
  refine exists_congr fun w => ⟨?_, ?_⟩
  · rintro ⟨hw, rfl⟩
    obtain ⟨ho, hk⟩ := CopyGroup.wayOf_spec hw
    exact ⟨rfl, CopyEntry.occupied_iff.1 ho, hk⟩
  · rintro ⟨rfl, ho, hk⟩
    exact ⟨law.wayOf_eq ho hk, rfl⟩

/-! ### Each operation on the way of its key -/

theorem CopyTable.touchKey_of_way {t : CopyTable} {k : Key} {w : Fin 4} (h : t[groupOf k].wayOf k = some w) :
    t.touchKey k = t.set (groupOf k) (t[groupOf k].touch w) := by
  simp only [CopyTable.touchKey, h]

theorem CopyTable.putRecord_of_way {t : CopyTable} {k : Key} {w : Fin 4} (h : t[groupOf k].wayOf k = some w)
    (r : TableRecord) :
    t.putRecord k r =
      t.set (groupOf k) (t[groupOf k].set w { t[groupOf k][w] with state := .valid, record := r }) := by
  simp only [CopyTable.putRecord, h]

theorem CopyTable.putRecord_of_none {t : CopyTable} {k : Key} (h : t[groupOf k].wayOf k = none) (r : TableRecord) :
    t.putRecord k r = t := by
  simp only [CopyTable.putRecord, h]

theorem CopyTable.dropKey_of_valid {t : CopyTable} {k : Key} {w : Fin 4} (h : t[groupOf k].wayOf k = some w)
    (hv : t[groupOf k][w].state = .valid) : t.dropKey k = t.set (groupOf k) (t[groupOf k].release w) := by
  simp only [CopyTable.dropKey, h, if_pos hv]

/-- A key without a VALID way has nothing to drop: a FILLING copy stays (R56). -/
theorem CopyTable.dropKey_of_not_valid {t : CopyTable} {k : Key}
    (h : ∀ w : Fin 4, t[groupOf k][w].state = .valid → t[groupOf k][w].key ≠ k) : t.dropKey k = t := by
  cases hw : t[groupOf k].wayOf k with
  | none => simp only [CopyTable.dropKey, hw]
  | some w =>
    obtain ⟨-, hk⟩ := CopyGroup.wayOf_spec hw
    simp only [CopyTable.dropKey, hw, if_neg fun hv => h w hv hk]

/-! ### Other groups -/

theorem CopyTable.touchKey_other (t : CopyTable) {k : Key} {g : Fin 64} (h : g ≠ groupOf k) :
    (t.touchKey k)[g] = t[g] := by
  cases hw : t[groupOf k].wayOf k with
  | none => simp only [CopyTable.touchKey, hw]
  | some w =>
    rw [CopyTable.touchKey_of_way hw]
    simp [Fin.val_ne_of_ne h.symm]

theorem CopyTable.claimKey_other (t : CopyTable) {k : Key} {g : Fin 64} (h : g ≠ groupOf k) :
    (t.claimKey k)[g] = t[g] := by
  simp [CopyTable.claimKey, Fin.val_ne_of_ne h.symm]

theorem CopyTable.claimKey_group (t : CopyTable) (k : Key) : (t.claimKey k)[groupOf k] = t[groupOf k].claim k := by
  simp [CopyTable.claimKey]

/-! ### Freeing a way of a lawful group -/

/-- A FREE way of a lawful group has age 0, so none of the freed way's elders is FREE (R42). -/
theorem GroupLaw.getElem_release {i : Fin 64} {g : CopyGroup} (law : GroupLaw i g) {w v : Fin 4} (h : v ≠ w) :
    (g.release w)[v] =
      { g[v] with age := if g[w].age < g[v].age then g[v].age - 1 else g[v].age } := by
  have hocc : g[w].age < g[v].age → g[v].occupied = true := fun hlt => by
    rw [CopyEntry.occupied_iff]
    intro hfree
    rw [law.free_cleared v hfree] at hlt
    exact absurd hlt (Nat.not_lt_zero _)
  rw [CopyGroup.getElem_release, if_neg h]
  by_cases hlt : g[w].age < g[v].age
  · rw [if_pos ⟨hocc hlt, hlt⟩, if_pos hlt]
  · rw [if_neg fun hh => hlt hh.2, if_neg hlt]

/-! ### The copy of a fetched key -/

/-- The record of a key's VALID copy, where its version is higher than `v` (R50). -/
def CopyTable.newerCopy (t : CopyTable) (k : Key) (v : Version) : Option TableRecord :=
  match t.entry k with
  | some x => if x.state = .valid ∧ v < x.record.version then some x.record else none
  | none => none

theorem CopyTable.putRecord_of_no_entry {t : CopyTable} {k : Key} (h : t.entry k = none) (r : TableRecord) :
    t.putRecord k r = t :=
  CopyTable.putRecord_of_none (Option.map_eq_none_iff.1 h) r

/-- The newer of the copy and the DATA completes the fetch, and the copy takes no older record (R49, R50). -/
theorem CopyTable.takeData_eq (t : CopyTable) (k : Key) (r : TableRecord) :
    t.takeData k r =
      (if t.newerCopy k r.version = none then t.putRecord k r else t, (t.newerCopy k r.version).getD r) := by
  cases h : t.entry k with
  | none => simp [CopyTable.takeData, CopyTable.newerCopy, h, CopyTable.putRecord_of_no_entry h]
  | some x =>
    by_cases hx : x.state = .valid ∧ r.version < x.record.version
    · simp [CopyTable.takeData, CopyTable.newerCopy, h, hx]
    · simp only [CopyTable.takeData, CopyTable.newerCopy, h, if_neg hx, if_true, Option.getD_none]

/-- A copy that takes a record is VALID with it; its key and age stay, and so does every other way (R49, R52). -/
theorem CopyTable.getElem_putRecord {t : CopyTable} {k : Key} {w : Fin 4} (h : t[groupOf k].wayOf k = some w)
    (r : TableRecord) :
    (t.putRecord k r)[groupOf k][w] = { t[groupOf k][w] with state := .valid, record := r } ∧
      (∀ v : Fin 4, v ≠ w → (t.putRecord k r)[groupOf k][v] = t[groupOf k][v]) ∧
      ∀ g : Fin 64, g ≠ groupOf k → (t.putRecord k r)[g] = t[g] := by
  rw [CopyTable.putRecord_of_way h]
  refine ⟨by simp, fun v hv => ?_, fun g hg => ?_⟩
  · simp [Fin.val_ne_of_ne hv.symm]
  · simp [Fin.val_ne_of_ne hg.symm]

end Sys2Proof.Machine
end

section
/-! PROOFS. DROP at the head (R56, R153). -/

namespace Sys2Proof.Machine

theorem exec_drop_of_reachesStep8 {s : State} {c : CommandRecord} (h : s.reachesStep8 .drop c) :
    exec .drop s =
      .next (({ s with copies := s.copies.dropKey c.key } : State).finishHead
        (plainRecord c c.key .ok 0)).refreshReq := by
  change Host.Outcome.next (s.followOn fun s => s.atHead .drop State.serveDrop) = _
  rw [State.followOn_of_ready h.1.1, State.atHead_of_reachesStep8 h]
  rfl

/-- Settles O29: the search for the key finds its VALID way if there is one, and a lawful group tells what freeing that
way leaves. -/
theorem dropFreesTheCopy : Obligations.DropFreesTheCopy := by
  intro s c law hreach done
  have hexec : exec .drop s = .next (done (s.copies.dropKey c.key)).refreshReq := exec_drop_of_reachesStep8 hreach
  refine ⟨fun w hvalid hkey => ?_, fun hnone => ?_⟩
  · have hway : s.copies[groupOf c.key].wayOf c.key = some w :=
      (law (groupOf c.key)).wayOf_eq (by rw [hvalid]; decide) hkey
    rw [CopyTable.dropKey_of_valid hway hvalid] at hexec
    refine ⟨_, hexec, ?_, fun v hv => ?_, fun g hg => ?_⟩
    · simpa [CopyEntry.cleared, TableRecord.cleared] using CopyGroup.getElem_release s.copies[groupOf c.key] w w
    · simpa using (law (groupOf c.key)).getElem_release hv
    · simp [Fin.val_ne_of_ne hg.symm]
  · rw [hexec, CopyTable.dropKey_of_not_valid hnone]

end Sys2Proof.Machine
end

section
/-! PROOFS. What a miss claims in a group, and what a touch and a claim make of each way (R41, R44, R45). -/

namespace Sys2Proof.Machine

/-! ### The FREE way of the lowest number -/

theorem allWays_split (w : Fin 4) :
    allWays = allWays.take w.val ++ w :: allWays.drop (w.val + 1) ∧ ∀ v ∈ allWays.take w.val, v < w := by
  revert w
  decide

theorem CopyGroup.firstFree_eq {g : CopyGroup} {w : Fin 4} (hw : g[w].state = .free)
    (hv : ∀ v : Fin 4, v < w → g[v].state ≠ .free) : g.firstFree = some w := by
  obtain ⟨hsplit, hlt⟩ := allWays_split w
  exact List.find?_eq_some_iff_append.2
    ⟨by simpa using hw, _, _, hsplit, fun v hm => by simpa using hv v (hlt v hm)⟩

theorem CopyGroup.firstFree_eq_none {g : CopyGroup} (h : ∀ v : Fin 4, g[v].state ≠ .free) : g.firstFree = none :=
  List.find?_eq_none.2 fun v _ => by simpa using h v

/-! ### The VALID way of the highest age -/

/-- One step of the search for the VALID way of the highest age. -/
def CopyGroup.elder (g : CopyGroup) (best : Option (Fin 4)) (w : Fin 4) : Option (Fin 4) :=
  if g[w].state == .valid then
    match best with
    | some b => if g[b].age < g[w].age then some w else some b
    | none => some w
  else best

theorem CopyGroup.oldestValid_eq_foldl (g : CopyGroup) : g.oldestValid = allWays.foldl g.elder none := rfl

/-- What the search has found among the ways it has seen: a VALID way that none of them exceeds in age, or nothing
where none of them is VALID. -/
def CopyGroup.FoundAmong (g : CopyGroup) (seen : List (Fin 4)) : Option (Fin 4) → Prop
  | some b => g[b].state = .valid ∧ ∀ v ∈ seen, g[v].state = .valid → g[v].age ≤ g[b].age
  | none => ∀ v ∈ seen, g[v].state ≠ .valid

theorem CopyGroup.FoundAmong.step {g : CopyGroup} {seen : List (Fin 4)} {best : Option (Fin 4)}
    (h : g.FoundAmong seen best) (w : Fin 4) : g.FoundAmong (w :: seen) (g.elder best w) := by
  by_cases hw : g[w].state = .valid
  · cases best with
    | none =>
      simp only [CopyGroup.elder, hw]
      exact ⟨hw, List.forall_mem_cons.2 ⟨fun _ => le_rfl, fun v hv hvalid => absurd hvalid (h v hv)⟩⟩
    | some b =>
      obtain ⟨hb, hmax⟩ := h
      by_cases hlt : g[b].age < g[w].age
      · simp only [CopyGroup.elder, hw, if_pos hlt]
        exact ⟨hw, List.forall_mem_cons.2 ⟨fun _ => le_rfl, fun v hv hvalid => (hmax v hv hvalid).trans hlt.le⟩⟩
      · simp only [CopyGroup.elder, hw, if_neg hlt]
        exact ⟨hb, List.forall_mem_cons.2 ⟨fun _ => Nat.le_of_not_lt hlt, hmax⟩⟩
  · have hstay : g.elder best w = best := by simp [CopyGroup.elder, -Fin.getElem_fin, hw]
    rw [hstay]
    cases best with
    | none => exact List.forall_mem_cons.2 ⟨hw, h⟩
    | some b => exact ⟨h.1, List.forall_mem_cons.2 ⟨fun hvalid => absurd hvalid hw, h.2⟩⟩

theorem CopyGroup.foundAmong_foldl {g : CopyGroup} (ws : List (Fin 4)) {seen : List (Fin 4)}
    {best : Option (Fin 4)} (h : g.FoundAmong seen best) :
    g.FoundAmong (ws.reverse ++ seen) (ws.foldl g.elder best) := by
  induction ws generalizing seen best with
  | nil => exact h
  | cons w ws ih => simpa using ih (h.step w)

/-- The search sees every way (R44). -/
theorem CopyGroup.foundAmong_oldestValid (g : CopyGroup) : g.FoundAmong allWays.reverse g.oldestValid := by
  rw [CopyGroup.oldestValid_eq_foldl]
  simpa using CopyGroup.foundAmong_foldl allWays (g := g) (seen := []) (best := none) (fun _ h => nomatch h)

/-- Ages of a lawful group are distinct, so its oldest VALID way is the one the search finds (R41, R44). -/
theorem GroupLaw.oldestValid_eq {i : Fin 64} {g : CopyGroup} (law : GroupLaw i g) {w : Fin 4}
    (hw : g[w].state = .valid) (hmax : ∀ v : Fin 4, g[v].state = .valid → g[v].age ≤ g[w].age) :
    g.oldestValid = some w := by
  have hmem : ∀ v : Fin 4, v ∈ allWays.reverse := fun v => List.mem_reverse.2 (mem_allWays v)
  have hfound := g.foundAmong_oldestValid
  cases hb : g.oldestValid with
  | none =>
    rw [hb] at hfound
    exact absurd hw (hfound w (hmem w))
  | some b =>
    rw [hb] at hfound
    obtain ⟨hvalid, hle⟩ := hfound
    have hocc : ∀ {v : Fin 4}, g[v].state = .valid → g[v].occupied = true := fun h =>
      CopyEntry.occupied_iff.2 (by rw [h]; decide)
    rw [law.ages_distinct b w (hocc hvalid) (hocc hw) (le_antisymm (hmax b hvalid) (hle w (hmem w) hw))]

/-- With no VALID way there is none to claim among them. -/
theorem CopyGroup.oldestValid_eq_none {g : CopyGroup} (h : ∀ v : Fin 4, g[v].state ≠ .valid) :
    g.oldestValid = none := by
  have hfound := g.foundAmong_oldestValid
  cases hb : g.oldestValid with
  | none => rfl
  | some b =>
    rw [hb] at hfound
    exact absurd hfound.1 (h b)

/-! ### The way that a miss claims -/

theorem CopyGroup.claimable_of_free {g : CopyGroup} {w : Fin 4} (hw : g[w].state = .free)
    (hv : ∀ v : Fin 4, v < w → g[v].state ≠ .free) : g.claimable = some w := by
  simp only [CopyGroup.claimable, CopyGroup.firstFree_eq hw hv]

theorem CopyGroup.claimable_of_full {g : CopyGroup} (h : ∀ v : Fin 4, g[v].state ≠ .free) :
    g.claimable = g.oldestValid := by
  simp only [CopyGroup.claimable, CopyGroup.firstFree_eq_none h]

theorem CopyGroup.getElem_claim {g : CopyGroup} {w : Fin 4} (h : g.claimable = some w) (k : Key) (v : Fin 4) :
    (g.claim k)[v] =
      if v = w then { state := .filling, key := k, record := .cleared, age := 0 } else (g.touch w)[v] := by
  simp [CopyGroup.claim, h, Vector.getElem_set, Fin.ext_iff, eq_comm]

/-- A group full of FILLING ways has none to claim (R45). -/
theorem CopyGroup.claim_of_filling {g : CopyGroup} (h : ∀ v : Fin 4, g[v].state = .filling) (k : Key) :
    g.claim k = g := by
  have hnone : g.claimable = none := by
    rw [CopyGroup.claimable_of_full fun v => by rw [h v]; decide]
    exact CopyGroup.oldestValid_eq_none fun v => by rw [h v]; decide
  simp only [CopyGroup.claim, hnone]

/-! ### Ages after a touch -/

/-- Ages of a lawful group are below 4 (R41). -/
theorem GroupLaw.age_lt {i : Fin 64} {g : CopyGroup} (law : GroupLaw i g) {w : Fin 4} (h : g[w].state ≠ .free) :
    g[w].age < 4 :=
  (law.ages_dense w (CopyEntry.occupied_iff.2 h)).trans_le (List.length_filter_le _ _)

/-- Touching an occupied way makes the younger ones older; touching a FREE way all the others (R41). -/
theorem GroupLaw.getElem_touch {i : Fin 64} {g : CopyGroup} (law : GroupLaw i g) {w v : Fin 4} (h : v ≠ w) :
    (g.touch w)[v] =
      { g[v] with
        age :=
          if g[v].state ≠ .free ∧ (g[w].state = .free ∨ g[v].age < g[w].age) then g[v].age + 1
          else g[v].age } := by
  have hraised : (g[v].occupied = true ∧ g[v].age < if g[w].occupied = true then g[w].age else 4) ↔
      g[v].state ≠ .free ∧ (g[w].state = .free ∨ g[v].age < g[w].age) := by
    simp only [CopyEntry.occupied_iff]
    refine and_congr_right fun hv => ?_
    by_cases hw : g[w].state = .free
    · rw [if_neg (not_not_intro hw)]
      exact iff_of_true (law.age_lt hv) (.inl hw)
    · rw [if_pos hw]
      exact ⟨.inr, fun h => h.resolve_left hw⟩
  rw [CopyGroup.getElem_touch, if_neg h]
  simp only [hraised]
  split <;> rfl

end Sys2Proof.Machine
end

section
/-! PROOFS. READ at the head (R34, R43 to R47, R77, R146). -/

namespace Sys2Proof.Machine

/-! ### READ at step 8 -/

theorem exec_read_of_reachesStep8 {s : State} {c : CommandRecord} (h : s.reachesStep8 .read c) :
    exec .read s = .next (s.serveRead c).refreshReq := by
  change Host.Outcome.next (s.followOn fun s => s.atHead .read State.serveRead) = _
  rw [State.followOn_of_ready h.1.1, State.atHead_of_reachesStep8 h]

/-- A READ that the home store and the copies do not serve fetches: a FRESH one, or one of a key without an entry
(R46, R47). -/
theorem State.serveRead_of_miss {s : State} {c : CommandRecord} (hown : s.ownHome c.key = false)
    (h : c.flags.getLsbD 0 = true ∨ s.copies.entry c.key = none) :
    s.serveRead c = s.serveFetch c .read none c.noCopy := by
  have hmiss : (if c.fresh then none else s.copies.validRecord c.key) = none := by
    rcases h with hfresh | hnone
    · rw [if_pos (show c.fresh = true from hfresh)]
    · simp only [CopyTable.validRecord, hnone, ite_self]
  simp only [State.serveRead, hown, hmiss]
  rfl

/-- The new entry of a key whose home the member table gives (R77). -/
theorem State.newEntry_eq {s : State} {k : Key} {m : Member} (h : s.formation.homeOf k = some m) (kind : EntryKind)
    (c : CommandRecord) (command : CommandKind) (slot : Option (Fin 4)) (u : Option Update) :
    s.newEntry kind c command k slot u = freshEntry kind k m.station command c slot u s.clock := by
  simp [State.newEntry, freshEntry, h]

theorem CopyTable.atFetch_eq (t : CopyTable) (k : Key) (noCopy : Bool) :
    t.atFetch k noCopy =
      if t.entry k ≠ none then t.touchKey k else if noCopy = true then t else t.claimKey k := by
  cases h : t.entry k <;> simp [CopyTable.atFetch, h]

/-- Served at once, from the home store or a VALID copy (R34, R43, R146). -/
theorem exec_read_served (s : State) (c : CommandRecord) (h : s.reachesStep8 .read c) :
    (s.ownHome c.key = true → s.publishing c.key = false →
      exec .read s = .next (s.finishRecord c (s.committed c.key)).refreshReq) ∧
    (s.ownHome c.key = true → s.publishing c.key = true →
      exec .read s = .next (s.waitHead .read).refreshReq) ∧
    (∀ e : CopyEntry, s.ownHome c.key = false → c.flags.getLsbD 0 = false → s.copies.entry c.key = some e →
      e.state = .valid →
      exec .read s =
        .next (({ s with copies := s.copies.touchKey c.key } : State).finishRecord c e.record).refreshReq) := by
  rw [exec_read_of_reachesStep8 h]
  refine ⟨fun hown hpub => ?_, fun hown hpub => ?_, fun e hown hfresh hentry hvalid => ?_⟩
  · simp [State.serveRead, hown, hpub]
  · simp [State.serveRead, hown, hpub]
  · have hrecord : s.copies.validRecord c.key = some e.record := by
      simp [CopyTable.validRecord, hentry, hvalid]
    simp [State.serveRead, hown, show c.fresh = false from hfresh, hrecord]

/-- Any other READ of a remote key (R44 to R47, R77). -/
theorem exec_read_dispatched (s : State) (c : CommandRecord) (m : Member) (h : s.reachesStep8 .read c)
    (hown : s.ownHome c.key = false) (hhome : s.formation.homeOf c.key = some m)
    (hmiss : c.flags.getLsbD 0 = true ∨ s.copies.entry c.key = none) :
    (∀ i : Fin 8, s.tracker.freeIndex = some i →
      exec .read s = .next ({ s with
        tracker := s.tracker.allocate i (freshEntry .fetch c.key m.station .read c none none s.clock)
        copies :=
          if s.copies.entry c.key ≠ none then s.copies.touchKey c.key
          else if c.flags.getLsbD 1 = true then s.copies
          else s.copies.claimKey c.key } : State).leaveHead.refreshReq) ∧
    (s.tracker.freeIndex = none → exec .read s = .next (s.waitHead .read).refreshReq) := by
  rw [exec_read_of_reachesStep8 h, State.serveRead_of_miss hown hmiss]
  refine ⟨fun i hi => ?_, fun hfull => ?_⟩
  · simp only [State.serveFetch, hi, State.dispatchFetch, State.newEntry_eq hhome, CopyTable.atFetch_eq]
    rfl
  · simp only [State.serveFetch, hfull]

/-! ### The Copy Table's part -/

theorem CopyTable.getElem_touchKey {t : CopyTable} {k : Key} (law : GroupLaw (groupOf k) t[groupOf k]) {w : Fin 4}
    (ho : t[groupOf k][w].state ≠ .free) (hk : t[groupOf k][w].key = k) (v : Fin 4) :
    (t.touchKey k)[groupOf k][v] =
      { t[groupOf k][v] with
        age :=
          if v = w then 0
          else if t[groupOf k][v].state ≠ .free ∧ t[groupOf k][v].age < t[groupOf k][w].age then
            t[groupOf k][v].age + 1
          else t[groupOf k][v].age } := by
  have hgroup : (t.touchKey k)[groupOf k] = t[groupOf k].touch w := by
    rw [CopyTable.touchKey_of_way (law.wayOf_eq ho hk)]
    simp
  rw [hgroup]
  by_cases hv : v = w
  · rw [CopyGroup.getElem_touch, if_pos hv, if_pos hv]
  · rw [law.getElem_touch hv, if_neg hv]
    simp only [ho, false_or]

theorem CopyTable.getElem_claimKey {t : CopyTable} {k : Key} (law : GroupLaw (groupOf k) t[groupOf k]) {w : Fin 4}
    (h : t[groupOf k].claimable = some w) :
    (t.claimKey k)[groupOf k][w] = { state := .filling, key := k, record := .cleared, age := 0 } ∧
      ∀ v : Fin 4, v ≠ w → (t.claimKey k)[groupOf k][v] =
        { t[groupOf k][v] with
          age :=
            if t[groupOf k][v].state ≠ .free ∧
                (t[groupOf k][w].state = .free ∨ t[groupOf k][v].age < t[groupOf k][w].age) then
              t[groupOf k][v].age + 1
            else t[groupOf k][v].age } := by
  rw [CopyTable.claimKey_group]
  refine ⟨?_, fun v hv => ?_⟩
  · rw [CopyGroup.getElem_claim h, if_pos rfl]
  · rw [CopyGroup.getElem_claim h, if_neg hv, law.getElem_touch hv]

/-- A group without a way to claim stays (R45). -/
theorem CopyTable.claimKey_of_filling {t : CopyTable} {k : Key} (h : ∀ v : Fin 4, t[groupOf k][v].state = .filling) :
    t.claimKey k = t := by
  rw [CopyTable.claimKey, CopyGroup.claim_of_filling h]
  exact Vector.set_getElem_self _

/-- Settles O23: a READ is served or fetches by `State.serveRead`; the Copy Table's clauses are those of its
operations in the lawful group of the key. -/
theorem readIsServedOrDispatched : Obligations.ReadIsServedOrDispatched := by
  refine ⟨exec_read_served, exec_read_dispatched, fun copies k g law hg => ?_⟩
  obtain rfl : g = groupOf k := Fin.ext hg
  have lawk := law (groupOf k)
  refine ⟨CopyTable.entry_eq_some_iff lawk, fun h hne => ⟨copies.touchKey_other hne, copies.claimKey_other hne⟩,
    fun w ho hk => CopyTable.getElem_touchKey lawk ho hk, fun w hw => CopyTable.getElem_claimKey lawk ?_,
    CopyTable.claimKey_of_filling⟩
  rcases hw with ⟨hfree, hfirst⟩ | ⟨hfull, hvalid, hmax⟩
  · exact CopyGroup.claimable_of_free hfree hfirst
  · rw [CopyGroup.claimable_of_full hfull, lawk.oldestValid_eq hvalid hmax]

end Sys2Proof.Machine
end

section
/-! PROOFS. A frame's bytes are intact and carry its fields (R101, R113), so that the close of the window of a frame
heard whole hands on that very frame. -/

namespace Sys2Proof.Machine

/-! ### Little-endian numbers -/

/-- The two bytes of a number, read where they stand. -/
theorem le16_append_bytes16 (bs : List Byte) (x : BitVec 16) (rest : List Byte) :
    le16 (bs ++ (bytes16 x ++ rest)) bs.length = x := by
  have hjoin : (x.extractLsb' 8 8 ++ x.extractLsb' 0 8 : BitVec 16) = x := BitVec.extractLsb'_append_extractLsb'
  simp [le16, byteAt, bytes16, hjoin]

/-- The four bytes of a number, read where they stand. -/
theorem le32_append_bytes32 (bs : List Byte) (x : BitVec 32) (rest : List Byte) :
    le32 (bs ++ (bytes32 x ++ rest)) bs.length = x := by
  have hjoin : ((x.extractLsb' 24 8 ++ x.extractLsb' 16 8 : BitVec 16) ++
      (x.extractLsb' 8 8 ++ x.extractLsb' 0 8 : BitVec 16) : BitVec 32) = x := by
    grind
  simp [le32, le16, byteAt, bytes32, Nat.add_assoc, hjoin]

/-- The `n`th of several numbers, read where it stands. -/
theorem le32_append_flatMap (bs : List Byte) (ws : List Word) (rest : List Byte) {n : Nat} (h : n < ws.length) :
    le32 (bs ++ (ws.flatMap bytes32 ++ rest)) (bs.length + 4 * n) = ws[n] := by
  induction ws generalizing bs n with
  | nil => exact absurd h (Nat.not_lt_zero n)
  | cons w ws ih =>
    cases n with
    | zero => simpa using le32_append_bytes32 bs w (ws.flatMap bytes32 ++ rest)
    | succ n =>
      have hlength : (bs ++ bytes32 w).length = bs.length + 4 := by simp [bytes32]
      have htail := ih (bs ++ bytes32 w) (Nat.lt_of_succ_lt_succ h)
      rw [hlength] at htail
      simpa [Nat.mul_add, Nat.add_assoc, Nat.add_comm 4] using htail

theorem valueBytes_eq_flatMap (v : Value) : valueBytes v = v.toList.flatMap bytes32 := by
  have hwords : v.toList = [v[0], v[1], v[2], v[3], v[4], v[5], v[6], v[7]] :=
    List.ext_getElem (by simp) fun n hn _ => by
      have hn : n < 8 := by simpa using hn
      interval_cases n <;> rfl
  simp [hwords, valueBytes]

theorem leValue_eq_ofFn (bs : List Byte) (i : Nat) :
    leValue bs i = Vector.ofFn fun n : Fin 8 => le32 bs (i + 4 * n.val) := rfl

/-- The 32 bytes of a value, read where they stand. -/
theorem leValue_append_valueBytes (bs : List Byte) (v : Value) (rest : List Byte) :
    leValue (bs ++ (valueBytes v ++ rest)) bs.length = v := by
  ext1 n hn
  rw [leValue_eq_ofFn, valueBytes_eq_flatMap, Vector.getElem_ofFn, le32_append_flatMap _ _ _ (by simpa using hn),
    Vector.getElem_toList]

/-! ### Length and check -/

@[simp] theorem valueBytes_length (v : Value) : (valueBytes v).length = 32 := rfl

theorem Frame.body_length (f : Frame) : f.body.length = if f.long = true then 44 else 12 := by
  cases h : f.long <;> simp [Frame.body, h, bytes16, bytes32]

theorem Frame.bytes_length (f : Frame) : f.bytes.length = f.body.length + 2 := by
  simp [Frame.bytes, bytes16]

/-- A frame as it is sent is intact (R101, R113). -/
theorem Frame.frameIntact_bytes (f : Frame) : frameIntact f.bytes = true := by
  have hlength : f.bytes.length = 14 ∨ f.bytes.length = 46 := by
    rw [Frame.bytes_length, Frame.body_length]
    cases f.long <;> simp
  have htake : f.bytes.take (f.bytes.length - 2) = f.body := by
    rw [Frame.bytes_length]
    exact List.take_left
  have hcrc : le16 f.bytes (f.bytes.length - 2) = crc16 f.body := by
    rw [Frame.bytes_length]
    simpa [Frame.bytes] using le16_append_bytes16 f.body (crc16 f.body) []
  simp [frameIntact, hlength, htake, hcrc]

/-! ### Fields -/

theorem highNibble_append (a b : BitVec 4) : highNibble (a ++ b) = a :=
  BitVec.extractLsb'_append_eq_left

theorem lowNibble_append (a b : BitVec 4) : lowNibble (a ++ b) = b :=
  BitVec.extractLsb'_append_eq_right

/-- Bits 0 to 2 of byte 1 are present, reclose and long (R113). -/
theorem flagNibble_bits (target : Station) (long reclose present : Bool) :
    let b : Byte := target ++ (0#1 ++ BitVec.ofBool long ++ BitVec.ofBool reclose ++ BitVec.ofBool present)
    b.getLsbD 0 = present ∧ b.getLsbD 1 = reclose ∧ b.getLsbD 2 = long := by
  grind

theorem Frame.bytes_eq (f : Frame) : f.bytes =
    [f.code ++ f.sender,
      f.target ++ (0#1 ++ BitVec.ofBool f.long ++ BitVec.ofBool f.reclose ++ BitVec.ofBool f.present),
      f.epoch, f.tag] ++ (bytes16 f.key ++ ([f.aux, f.wordIndex] ++ (bytes32 f.version ++
      ((if f.long then valueBytes f.value else []) ++ bytes16 (crc16 f.body))))) := by
  simp [Frame.bytes, Frame.body]

theorem Frame.le16_bytes (f : Frame) : le16 f.bytes 4 = f.key := by
  rw [Frame.bytes_eq]
  exact le16_append_bytes16 _ _ _

theorem Frame.le32_bytes (f : Frame) : le32 f.bytes 8 = f.version := by
  rw [Frame.bytes_eq]
  exact le32_append_bytes32 (_ :: _ :: _ :: _ :: (bytes16 f.key ++ [f.aux, f.wordIndex])) _ _

theorem Frame.leValue_bytes {f : Frame} (h : f.long = true) : leValue f.bytes 12 = f.value := by
  rw [Frame.bytes_eq, if_pos h]
  exact leValue_append_valueBytes (_ :: _ :: _ :: _ :: (bytes16 f.key ++ f.aux :: f.wordIndex :: bytes32 f.version)) _ _

/-- The bytes of a frame carry its fields (R113). -/
theorem Frame.ofBytes_bytes {f : Frame} (h : f.long = false → f.value = zeroValue) : Frame.ofBytes f.bytes = f := by
  have hvalue : (if f.bytes.length = 46 then leValue f.bytes 12 else zeroValue) = f.value := by
    rw [Frame.bytes_length, Frame.body_length]
    cases hl : f.long with
    | false => simp [h hl]
    | true => simp [Frame.leValue_bytes hl]
  have h0 : byteAt f.bytes 0 = f.code ++ f.sender := rfl
  have h1 : byteAt f.bytes 1 =
      f.target ++ (0#1 ++ BitVec.ofBool f.long ++ BitVec.ofBool f.reclose ++ BitVec.ofBool f.present) := rfl
  have h2 : byteAt f.bytes 2 = f.epoch := rfl
  have h3 : byteAt f.bytes 3 = f.tag := rfl
  have h6 : byteAt f.bytes 6 = f.aux := rfl
  have h7 : byteAt f.bytes 7 = f.wordIndex := rfl
  obtain ⟨hpresent, hreclose, hlong⟩ := flagNibble_bits f.target f.long f.reclose f.present
  rw [Frame.ofBytes, hvalue, h0, h1, h2, h3, h6, h7, Frame.le16_bytes, Frame.le32_bytes, hpresent, hreclose, hlong,
    highNibble_append, lowNibble_append, highNibble_append]

end Sys2Proof.Machine
end

section
/-! PROOFS. The close of the window of another station's frame at a synced station at rest: which frame is handed on
(R101, R106, R107), the signs of life it gives (R109), and a taken DATA or REFUSE (R49, R50, R83 to R85). -/

namespace Sys2Proof.Machine

/-! ### The close -/

/-- The Span Interface's part of the close at a synced station: the sender of an intact frame is the last winner
(R101, R103). -/
theorem State.endWindow_setWinner_bytes {s : State} (h : s.span.synced = true) {f : Frame}
    (hvalue : f.long = false → f.value = zeroValue) (winner : Option Station) :
    s.startEvent.endWindow.setWinner winner (some f.bytes) = s.windowClosed (some f.sender) := by
  simp only [State.setWinner, f.frameIntact_bytes, Frame.ofBytes_bytes hvalue]
  exact if_pos h

/-- The close of the window of another station's frame, without CHK#, hands that frame on with its outcome (R106,
R107). -/
theorem exec_responseWindowClose_of_closingWindow {s : State} {winner : Option Station} {f : Frame}
    (h : s.closingWindow winner f) (hsynced : s.span.synced = true) (ack rty : Bool) (order : List Nat) :
    exec (.responseWindowClose ack rty false order) s =
      .next ((s.windowClosed (some f.sender)).handOn f
        (frameOutcome f.kind { ack := ack || s.span.ack, rty := rty || s.span.rty, chk := false })
        false order).refreshReq := by
  obtain ⟨hrest, htenure, hvalue, hplace, hchk, hintruder⟩ := h
  have hclosed := State.endWindow_setWinner_bytes hsynced hvalue winner
  have hsettled (o : SendOutcome) :
      (s.windowClosed (some f.sender)).settlePlace f o = s.windowClosed (some f.sender) :=
    if_neg (by simp [State.windowClosed, State.eventAt, hplace])
  change Host.Outcome.next (s.onEvent fun s => s.closeWindow ack rty false order) = _
  rw [State.onEvent_of_atRest hrest]
  simp only [State.closeWindow, State.startEvent_span, htenure, hintruder, hclosed, State.closeHeard,
    State.readLines, hchk, f.frameIntact_bytes, Frame.ofBytes_bytes hvalue, hsettled, State.followIntruder_absent]
  rfl

/-! ### Signs of life -/

/-- Only a LOST member gives no signs of life (R126). -/
theorem Member.alive_eq (m : Member) (now : Time) :
    m.alive now =
      if m.health ≠ .lost then { m with silence := 0, health := .up, evidenceAt := some now } else m := by
  obtain ⟨_, _, health, _, _⟩ := m
  cases health <;> rfl

/-- The station at the close of the window of a frame that shows its sender alive (R101, R109). -/
def State.heardAlive (s : State) (sender : Station) : State :=
  { s.windowClosed (some sender) with formation := s.aliveAtClose sender }

/-- Evidence of life at one station of the table (R109, R126). -/
theorem State.evidence_windowClosed {s : State} (h : s.formation.state = .member) (st : Station) :
    (s.windowClosed (some st)).evidence st = s.heardAlive st := by
  by_cases hst : st = s.pins.station
  · rw [State.evidence, if_neg fun hh => hh.2 hst, State.heardAlive, State.aliveAtClose, aliveIn, if_pos hst]
    rfl
  · rw [State.evidence, if_pos ⟨h, hst⟩, State.heardAlive, State.aliveAtClose, aliveIn, if_neg hst]
    simp only [FormationController.modify, Member.alive_eq, ite_and]
    rfl

/-! ### A taken DATA or REFUSE -/

theorem Frame.kind_of_code_data {f : Frame} (h : f.code = 10) : f.kind = some .data := by
  rw [Frame.kind, h]
  rfl

theorem Frame.kind_of_code_refuse {f : Frame} (h : f.code = 12) : f.kind = some .refuse := by
  rw [Frame.kind, h]
  rfl

/-- A DATA or REFUSE without CHK# is taken when its target drives ACK# (R106). -/
theorem frameOutcome_of_answer {f : Frame} (hcode : f.code = 10 ∨ f.code = 12) {ack : Bool} (hack : ack = true)
    (rty : Bool) : frameOutcome f.kind { ack := ack, rty := rty, chk := false } = .taken := by
  subst hack
  rcases hcode with hcode | hcode
  · rw [Frame.kind_of_code_data hcode]
    rfl
  · rw [Frame.kind_of_code_refuse hcode]
    rfl

@[simp] theorem State.evidence_pins (s : State) (st : Station) : (s.evidence st).pins = s.pins := by
  rw [State.evidence_frame]

/-- What a DATA or REFUSE addressed to the station does there (R84, R85). -/
def State.takeAnswer (s : State) (f : Frame) : State :=
  if f.code = 10 then s.takeData f else s.takeRefuse f

/-- A taken DATA or REFUSE at a MEMBER: one of its epoch shows its sender alive, and acts where it is addressed to the
station (R83, R108, R109). -/
theorem State.takeAtMember_of_answer (s : State) {f : Frame} (hcode : f.code = 10 ∨ f.code = 12)
    (order : List Nat) :
    s.takeAtMember f order =
      if f.epoch = s.formation.epoch then
        if f.target = s.pins.station then (s.evidence f.sender).takeAnswer f else s.evidence f.sender
      else s := by
  rcases hcode with hcode | hcode
  · simp [State.takeAtMember, State.tableFrame, State.takeAnswer, Frame.kind_of_code_data hcode, hcode]
  · simp [State.takeAtMember, State.tableFrame, State.takeAnswer, Frame.kind_of_code_refuse hcode, hcode]

/-- The close of the window of a taken DATA or REFUSE at a synced MEMBER. -/
theorem exec_responseWindowClose_of_answer {s : State} {winner : Option Station} {f : Frame}
    (h : s.closingWindow winner f) (hsynced : s.span.synced = true) (hmember : s.formation.state = .member)
    (hcode : f.code = 10 ∨ f.code = 12) {ack : Bool} (hack : ack = true ∨ s.span.ack = true) (rty : Bool)
    (order : List Nat) :
    exec (.responseWindowClose ack rty false order) s =
      .next (if f.epoch = s.formation.epoch then
          if f.target = s.pins.station then (s.heardAlive f.sender).takeAnswer f else s.heardAlive f.sender
        else s.windowClosed (some f.sender)).refreshReq := by
  have hclosed : (s.windowClosed (some f.sender)).formation.state = .member := hmember
  rw [exec_responseWindowClose_of_closingWindow h hsynced, frameOutcome_of_answer hcode (by simpa using hack),
    ← State.evidence_windowClosed hmember]
  simp only [State.handOn, hclosed, if_true, State.takeAtMember_of_answer _ hcode]
  rfl

/-! ### The entry that an answer matches -/

theorem PendingEntry.answers_iff (e : PendingEntry) (f : Frame) :
    e.answers f = true ↔ e.state = .sent ∧ e.tag = f.tag ∧ e.key = f.key ∧ e.home = f.sender := by
  simp [PendingEntry.answers, and_assoc]

theorem PendingEntry.key_of_answers {e : PendingEntry} {f : Frame} (h : e.answers f = true) : e.key = f.key := by
  obtain ⟨-, -, hkey, -⟩ := (e.answers_iff f).1 h
  exact hkey

/-- A key has one entry, so the search for an answer's entry finds the one in use that it matches (R77, R83). -/
theorem TrackerLaw.find_answered {s : State} (law : TrackerLaw s) {f : Frame} {i : Fin 8} {e : PendingEntry}
    (he : s.tracker.entries[i] = some e) (ha : e.answers f = true) {p : PendingEntry → Bool} (hp : p e = true)
    (hanswers : ∀ x : PendingEntry, p x = true → x.answers f = true) :
    allEntries.find? (s.tracker.holds p) = some i :=
  RequestTracker.find_holds_unique he hp fun j x hx hpx =>
    law.one_per_key j i x e hx he <|
      (PendingEntry.key_of_answers (hanswers x hpx)).trans (PendingEntry.key_of_answers ha).symm

theorem TrackerLaw.matchData_eq {s : State} (law : TrackerLaw s) {f : Frame} {i : Fin 8} {e : PendingEntry}
    (he : s.tracker.entries[i] = some e) (hkind : e.kind = .fetch) (ha : e.answers f = true) :
    s.tracker.matchData f = some i :=
  law.find_answered he ha (by simp [hkind, ha]) fun x hx => by
    obtain ⟨-, hxa⟩ := Bool.and_eq_true_iff.1 hx
    exact hxa

theorem TrackerLaw.matchRefuse_eq {s : State} (law : TrackerLaw s) {f : Frame} {i : Fin 8} {e : PendingEntry}
    (he : s.tracker.entries[i] = some e) (ha : e.answers f = true)
    (hkind : e.kind = .fetch ∧ refuseOutcome f.aux = some .spanFault ∨
      e.kind = .update ∧ (refuseOutcome f.aux).isSome = true) :
    s.tracker.matchRefuse f = some i :=
  law.find_answered he ha (by simpa [ha] using hkind) fun x hx => by
    obtain ⟨hxa, -⟩ := Bool.and_eq_true_iff.1 hx
    exact hxa

/-- A search of the pending table for what no entry in use satisfies finds nothing. -/
theorem RequestTracker.find_holds_eq_none {t : RequestTracker} {p : PendingEntry → Bool}
    (h : ∀ (i : Fin 8) (e : PendingEntry), t.entries[i] = some e → p e = false) :
    allEntries.find? (t.holds p) = none :=
  List.find?_eq_none.2 fun i _ hi => by
    obtain ⟨e, he, hp⟩ := (t.holds_iff p i).1 hi
    exact Bool.false_ne_true ((h i e he).symm.trans hp)

/-! ### What an answer does -/

theorem refuseOutcome_isSome_iff (c : Byte) : (refuseOutcome c).isSome = true ↔ c ∈ ([1, 2, 3] : List Byte) := by
  revert c
  decide

theorem refuseOutcome_eq_spanFault_iff (c : Byte) : refuseOutcome c = some .spanFault ↔ c = 3 := by
  revert c
  decide

/-- An answer that matches no entry is stale: nothing acts on it (R83). -/
theorem State.takeAnswer_of_stale {s : State} {f : Frame} (hcode : f.code = 10 ∨ f.code = 12)
    (h : ∀ (i : Fin 8) (e : PendingEntry), s.tracker.entries[i] = some e → e.answers f = true →
      ¬ (e.kind = .fetch ∧ (f.code = 10 ∨ f.aux = 3) ∨
        e.kind = .update ∧ f.code = 12 ∧ f.aux ∈ ([1, 2, 3] : List Byte))) :
    s.takeAnswer f = s := by
  rcases hcode with hcode | hcode
  · have hnone : s.tracker.matchData f = none := RequestTracker.find_holds_eq_none fun i e he => by
      rw [Bool.and_eq_false_imp]
      intro hkind
      rw [← Bool.not_eq_true]
      exact fun ha => h i e he ha (.inl ⟨by simpa using hkind, .inl hcode⟩)
    simp only [State.takeAnswer, if_pos hcode, State.takeData, hnone]
  · have hnone : s.tracker.matchRefuse f = none := RequestTracker.find_holds_eq_none fun i e he => by
      rw [Bool.and_eq_false_imp]
      intro ha
      rw [← Bool.not_eq_true]
      intro hkind
      refine h i e he ha ?_
      simpa [hcode, refuseOutcome_isSome_iff, refuseOutcome_eq_spanFault_iff] using hkind
    have hne : f.code ≠ 10 := by rw [hcode]; decide
    simp only [State.takeAnswer, if_neg hne, State.takeRefuse, hnone]

/-- A REFUSE that matches an entry ends it with its reason and version (R85). -/
theorem State.takeAnswer_of_refused {s : State} {f : Frame} {i : Fin 8} {e : PendingEntry} {o : CmdOutcome}
    (hcode : f.code = 12) (hm : s.tracker.matchRefuse f = some i) (ho : refuseOutcome f.aux = some o)
    (he : s.tracker.entries[i] = some e) : s.takeAnswer f = s.withEntryEnded i e o f.version := by
  have hne : f.code ≠ 10 := by rw [hcode]; decide
  simp only [State.takeAnswer, if_neg hne, State.takeRefuse, hm, ho, State.failEntry_of_some he]

/-- The station after an entry ended with a record: its completion joins the queue, the slot of a RESERVE is HELD, its
index is free, and the head is tested again (R63, R84, R88, R140). -/
def State.withEntryAnswered (s : State) (i : Fin 8) (e : PendingEntry) (r : TableRecord) : State :=
  { s with
    slots :=
      match e.slot with
      | some n => s.slots.set n { state := .held, key := e.key, version := r.version }
      | none => s.slots
    tracker := { s.tracker with entries := s.tracker.entries.set i none }
    engine := s.engine.retest
    port := s.port.complete (readCompletion e.hostTag e.key r) }

theorem State.answerFetch_of_some {s : State} {i : Fin 8} {e : PendingEntry} (h : s.tracker.entries[i] = some e)
    (r : TableRecord) : s.answerFetch i r = s.withEntryAnswered i e r := by
  simp only [State.answerFetch, h, State.withEntryAnswered]
  cases e.slot <;> rfl

/-- A DATA that matches a FETCH completes it with what the Copy Table makes of its record (R49, R50, R84). -/
theorem State.takeAnswer_of_data {s : State} {f : Frame} {i : Fin 8} {e : PendingEntry} (hcode : f.code = 10)
    (hm : s.tracker.matchData f = some i) (he : s.tracker.entries[i] = some e) :
    s.takeAnswer f =
      ({ s with copies := (s.copies.takeData f.key f.record).1 } : State).withEntryAnswered i e
        (s.copies.takeData f.key f.record).2 := by
  simp only [State.takeAnswer, if_pos hcode, State.takeData, hm]
  exact State.answerFetch_of_some (by exact he) _

/-! ### The close of the window of an answer -/

section

variable {s : State} {winner : Option Station} {f : Frame} {ack : Bool}
variable (hclosing : s.closingWindow winner f) (hsynced : s.span.synced = true)
  (hmember : s.formation.state = .member) (hack : ack = true ∨ s.span.ack = true)

include hclosing hsynced hmember hack

/-- A taken DATA that matches a FETCH (R49, R50, R84). -/
theorem exec_responseWindowClose_of_matching_data {i : Fin 8} {e : PendingEntry} (rty : Bool) (order : List Nat)
    (law : TrackerLaw s) (hcode : f.code = 10) (hepoch : f.epoch = s.formation.epoch)
    (htarget : f.target = s.pins.station) (he : s.tracker.entries[i] = some e) (hkind : e.kind = .fetch)
    (ha : e.answers f = true) :
    exec (.responseWindowClose ack rty false order) s =
      .next (({ s.heardAlive f.sender with
        copies := (s.copies.takeData f.key f.record).1 } : State).withEntryAnswered i e
          (s.copies.takeData f.key f.record).2).refreshReq := by
  have hm : s.tracker.matchData f = some i := law.matchData_eq he hkind ha
  rw [exec_responseWindowClose_of_answer hclosing hsynced hmember (.inl hcode) hack, if_pos hepoch, if_pos htarget,
    State.takeAnswer_of_data (s := s.heardAlive f.sender) hcode hm he]
  rfl

/-- A taken REFUSE that matches an entry (R83, R85). -/
theorem exec_responseWindowClose_of_matching_refuse {i : Fin 8} {e : PendingEntry} {o : CmdOutcome} (rty : Bool)
    (order : List Nat) (law : TrackerLaw s) (hcode : f.code = 12) (hepoch : f.epoch = s.formation.epoch)
    (htarget : f.target = s.pins.station) (ho : refuseOutcome f.aux = some o) (he : s.tracker.entries[i] = some e)
    (hkind : e.kind = .update ∨ e.kind = .fetch ∧ o = .spanFault) (ha : e.answers f = true) :
    exec (.responseWindowClose ack rty false order) s =
      .next ((s.heardAlive f.sender).withEntryEnded i e o f.version).refreshReq := by
  have hm : s.tracker.matchRefuse f = some i := law.matchRefuse_eq he ha <| by
    rcases hkind with hupdate | ⟨hfetch, rfl⟩
    · exact .inr ⟨hupdate, Option.isSome_of_eq_some ho⟩
    · exact .inl ⟨hfetch, ho⟩
  rw [exec_responseWindowClose_of_answer hclosing hsynced hmember (.inr hcode) hack, if_pos hepoch, if_pos htarget,
    State.takeAnswer_of_refused (s := s.heardAlive f.sender) hcode hm ho he]

/-- A taken DATA or REFUSE for another station, or that matches no entry, shows its sender alive; one of another epoch
not even that (R83, R108, R109). -/
theorem exec_responseWindowClose_of_stale_answer (rty : Bool) (order : List Nat) (hcode : f.code = 10 ∨ f.code = 12)
    (hstale : f.epoch = s.formation.epoch → f.target = s.pins.station →
      ∀ (i : Fin 8) (e : PendingEntry), s.tracker.entries[i] = some e → e.answers f = true →
        ¬ (e.kind = .fetch ∧ (f.code = 10 ∨ f.aux = 3) ∨
          e.kind = .update ∧ f.code = 12 ∧ f.aux ∈ ([1, 2, 3] : List Byte))) :
    exec (.responseWindowClose ack rty false order) s =
      .next (if f.epoch = s.formation.epoch then s.heardAlive f.sender
        else s.windowClosed (some f.sender)).refreshReq := by
  rw [exec_responseWindowClose_of_answer hclosing hsynced hmember hcode hack]
  by_cases hepoch : f.epoch = s.formation.epoch
  · rw [if_pos hepoch, if_pos hepoch]
    by_cases htarget : f.target = s.pins.station
    · rw [if_pos htarget, State.takeAnswer_of_stale (s := s.heardAlive f.sender) hcode (hstale hepoch htarget)]
    · rw [if_neg htarget]
  · rw [if_neg hepoch, if_neg hepoch]

end

/-! ### The obligation -/

/-- Settles O52: each case is the close of the window of an answer that matches the entry, or none; a lawful tracker has
one entry for the key, a lawful group one way. -/
theorem takenDataCompletesItsFetch : Obligations.TakenDataCompletesItsFetch := by
  refine ⟨?data, ?refuse, ?stale, ?copy⟩
  case data =>
    intro s winner f i e ack rty order hclosing law hsynced hmember hcode _ hepoch htarget hack he hkind hsent htag
      hkey hhome data newer r
    have hexec := exec_responseWindowClose_of_matching_data hclosing hsynced hmember hack rty order law hcode hepoch
      htarget he hkind ((e.answers_iff f).2 ⟨hsent, htag, hkey, hhome⟩)
    have hcopies : s.copies.takeData f.key f.record =
        (if newer = none then s.copies.putRecord f.key data else s.copies, r) :=
      CopyTable.takeData_eq s.copies f.key f.record
    rw [hcopies] at hexec
    exact ⟨_, hexec, rfl, rfl, rfl, rfl, rfl, rfl, rfl, rfl, rfl⟩
  case refuse =>
    intro s winner f i e outcome ack rty order hclosing law hsynced hmember hcode hepoch htarget hack haux he hsent
      htag hkey hhome hkind
    have ho : refuseOutcome f.aux = some outcome := by
      rcases haux with ⟨haux, rfl⟩ | ⟨haux, rfl⟩ | ⟨haux, rfl⟩ <;> rw [haux] <;> rfl
    exact exec_responseWindowClose_of_matching_refuse hclosing hsynced hmember hack rty order law hcode hepoch htarget
      ho he hkind ((e.answers_iff f).2 ⟨hsent, htag, hkey, hhome⟩)
  case stale =>
    intro s winner f ack rty order hclosing hsynced hmember hcode hack hstale
    rw [exec_responseWindowClose_of_stale_answer hclosing hsynced hmember hack rty order hcode]
    · split <;> rfl
    intro hepoch htarget i e he ha
    obtain ⟨hsent, htag, hkey, hhome⟩ := (e.answers_iff f).1 ha
    rcases hstale with hother | hother | hnone
    · exact absurd hepoch hother
    · exact absurd htarget hother
    · exact hnone i e he hsent htag hkey hhome
  case copy =>
    intro copies k r g law hg
    obtain rfl : g = groupOf k := Fin.ext hg
    exact ⟨fun w ho hk => CopyTable.getElem_putRecord ((law (groupOf k)).wayOf_eq ho hk) r,
      fun hnone => CopyTable.putRecord_of_none (CopyGroup.wayOf_eq_none hnone) r⟩

end Sys2Proof.Machine
end

section
/-! PROOFS. The check errors of a frame heard from its start: each part of `checkError` is a line of R105's table, and
the obligation joins the lines. -/

namespace Sys2Proof.Machine

/-! ### The codes that name a kind and an op -/

theorem FrameKind.ofCode_eq_none_iff (c : BitVec 4) :
    FrameKind.ofCode c = none ↔ c ∉ ([1, 2, 3, 8, 9, 10, 11, 12] : List (BitVec 4)) := by
  revert c
  decide

/-- The code that names a kind is that kind's own (R114). -/
theorem FrameKind.eq_code_of_ofCode {c : BitVec 4} {k : FrameKind} (h : FrameKind.ofCode c = some k) : c = k.code := by
  revert c k
  decide

theorem Op.ofCode_eq_none_iff (c : Byte) : Op.ofCode c = none ↔ c ∉ ([1, 2, 3, 4] : List Byte) := by
  revert c
  decide

theorem refuseOutcome_eq_none_iff (c : Byte) : refuseOutcome c = none ↔ c ∉ ([1, 2, 3] : List Byte) := by
  rw [← refuseOutcome_isSome_iff, Option.not_isSome_iff_eq_none]

theorem keyInRange_eq_false_iff (k : Key) : keyInRange k = false ↔ 4096 ≤ k.toNat := by
  rw [keyInRange, decide_eq_false_iff_not, Nat.not_lt, Config.keyCount]

/-! ### The lines of the table -/

/-- The lines of R105 for the byte count and the CRC: the frame is not intact (R101). -/
theorem frameIntact_eq_false_iff (bs : List Byte) :
    frameIntact bs = false ↔
      (bs.length ≠ 14 ∧ bs.length ≠ 46) ∨ crc16 (bs.take (bs.length - 2)) ≠ le16 bs (bs.length - 2) := by
  simp [frameIntact, imp_iff_not_or]

/-- The frames that are long (R113). -/
theorem Frame.mustBeLong_iff (f : Frame) :
    f.mustBeLong = true ↔ f.code = 10 ∨ f.code = 11 ∨ (f.code = 9 ∧ f.aux ≠ 4) := by
  cases hk : f.kind with
  | none =>
    have hcode (k : FrameKind) : f.code ≠ k.code := fun h => by simp [Frame.kind, h] at hk
    refine iff_of_false (by simp [Frame.mustBeLong, hk]) ?_
    rintro (hdata | hpublish | ⟨hupdate, -⟩)
    exacts [hcode .data hdata, hcode .publish hpublish, hcode .update hupdate]
  | some k =>
    have hcode : f.code = k.code := FrameKind.eq_code_of_ofCode hk
    cases k <;> simp [Frame.mustBeLong, hk, hcode, FrameKind.code, Op.code]

/-- The lines of R105 for the fields that the kind of a frame uses: key, op, word index and reason. -/
def Frame.HasBadField (f : Frame) : Prop :=
  (f.code ∈ ([8, 9, 10, 11, 12] : List (BitVec 4)) ∧ 4096 ≤ f.key.toNat) ∨
    (f.code ∈ ([9, 11] : List (BitVec 4)) ∧ f.aux ∉ ([1, 2, 3, 4] : List Byte)) ∨
    (f.code = 9 ∧ f.aux = 3 ∧ 8 ≤ f.wordIndex.toNat) ∨
    (f.code = 12 ∧ f.aux ∉ ([1, 2, 3] : List Byte))

/-- The lines of R105 for the fields of an intact frame: the kind, the length, and what the kind uses. -/
theorem Frame.fieldError_iff (f : Frame) (length : Nat) :
    f.fieldError length = true ↔
      f.code ∉ ([1, 2, 3, 8, 9, 10, 11, 12] : List (BitVec 4)) ∨
        ¬ (f.long = true ↔ f.mustBeLong = true) ∨ ¬ (length = 46 ↔ f.mustBeLong = true) ∨ f.HasBadField := by
  rw [← FrameKind.ofCode_eq_none_iff]
  change _ ↔ f.kind = none ∨ _
  have hlong : (f.long != f.mustBeLong) = true ↔ ¬ (f.long = true ↔ f.mustBeLong = true) := by
    rw [bne_iff_ne, Ne, Bool.eq_iff_iff]
  have hlength : ((length == 46) != f.mustBeLong) = true ↔ ¬ (length = 46 ↔ f.mustBeLong = true) := by
    rw [bne_iff_ne, Ne, Bool.eq_iff_iff, beq_iff_eq]
  cases hk : f.kind with
  | none => simp [Frame.fieldError, hk]
  | some k =>
    have hcode : f.code = k.code := FrameKind.eq_code_of_ofCode hk
    simp only [Frame.fieldError, hk, Bool.or_eq_true, hlong, hlength, or_assoc, reduceCtorEq,
      false_or]
    refine or_congr_right (or_congr_right ?_)
    cases k with
    | roll | close | reform => simp [Frame.HasBadField, hcode, FrameKind.code]
    | fetch | data => simp [Frame.HasBadField, hcode, FrameKind.code, keyInRange_eq_false_iff]
    | update =>
      simp [Frame.HasBadField, hcode, FrameKind.code, Op.code, keyInRange_eq_false_iff, Op.ofCode_eq_none_iff, or_assoc]
    | publish =>
      simp [Frame.HasBadField, hcode, FrameKind.code, keyInRange_eq_false_iff, Op.ofCode_eq_none_iff]
    | refuse =>
      simp [Frame.HasBadField, hcode, FrameKind.code, keyInRange_eq_false_iff, refuseOutcome_eq_none_iff]

/-- The parts of a check error: not intact, a field of the table, another sender than the computed winner, and for the
sender itself other bytes than it sent (R105). -/
theorem checkError_iff (winner : Option Station) (own : Option OwnFrame) (bs : List Byte) :
    checkError winner own bs = true ↔
      frameIntact bs = false ∨ (Frame.ofBytes bs).fieldError bs.length = true ∨
        (∃ w, winner = some w ∧ (Frame.ofBytes bs).sender ≠ w) ∨ ∃ o, own = some o ∧ o.frame.bytes ≠ bs := by
  cases winner <;> cases own <;> simp [checkError, or_assoc]

/-! ### The obligation -/

/-- Settles O44: the table is the lines of each part of `checkError`, in the table's order. -/
theorem checkErrorsAreTheTableOfR105 : Obligations.CheckErrorsAreTheTableOfR105 := by
  intro winner own bs f long
  have hlong : f.mustBeLong = true ↔ long := f.mustBeLong_iff
  rw [checkError_iff, frameIntact_eq_false_iff, Frame.fieldError_iff, hlong]
  simp only [Frame.HasBadField, or_assoc]
  rfl

end Sys2Proof.Machine
end

section
/-! PROOFS. The close of the window of a frame that a LISTEN or ROLLED station takes: what becomes of the station that
the frame syncs or finds synced (R101, R103), and its exclusion by table traffic or a re-close (R130, R132). -/

namespace Sys2Proof.Machine

/-! ### The close, at a synced station and at one that the frame syncs -/

/-- The station when the frame of `sender`, heard whole, is handed on at the close of its window: synced, the sender the
last winner, and a ROLL queued where this very frame syncs a LISTEN station (R101, R103, R119). -/
def State.heardAtClose (s : State) (sender : Station) : State :=
  if s.span.synced then s.windowClosed (some sender) else (s.windowClosed (some sender)).becomeSynced

theorem State.endWindow_setWinner_heard (s : State) {f : Frame} (hvalue : f.long = false → f.value = zeroValue)
    (winner : Option Station) :
    s.startEvent.endWindow.setWinner winner (some f.bytes) = s.heardAtClose f.sender := by
  cases hsynced : s.span.synced with
  | true => rw [State.endWindow_setWinner_bytes hsynced hvalue, State.heardAtClose, if_pos hsynced]
  | false =>
    rw [State.heardAtClose, if_neg (Bool.eq_false_iff.1 hsynced)]
    simp only [State.setWinner, f.frameIntact_bytes, Frame.ofBytes_bytes hvalue]
    exact if_neg (Bool.eq_false_iff.1 hsynced)

/-- The blocks that the close leaves as they were, and the event's part of the port. -/
theorem State.heardAtClose_frame (s : State) (sender : Station) :
    let t := s.heardAtClose sender
    t.pins = s.pins ∧ t.home = s.home ∧ t.copies = s.copies ∧ t.slots = s.slots ∧ t.tracker = s.tracker ∧
      t.watch = s.watch ∧ t.engine = s.engine ∧ t.port = { s.port with fresh := 0 } := by
  dsimp only [State.heardAtClose]
  split <;> exact ⟨rfl, rfl, rfl, rfl, rfl, rfl, rfl, rfl⟩

@[simp] theorem State.heardAtClose_pins (s : State) (n : Station) : (s.heardAtClose n).pins = s.pins :=
  (s.heardAtClose_frame n).1

@[simp] theorem State.heardAtClose_synced (s : State) (n : Station) : (s.heardAtClose n).span.synced = true := by
  rw [State.heardAtClose]
  split
  next hsynced => exact hsynced
  next => rfl

@[simp] theorem State.heardAtClose_lastWinner (s : State) (n : Station) :
    (s.heardAtClose n).span.lastWinner = some n := by
  rw [State.heardAtClose]
  split <;> rfl

/-- Becoming synced queues a ROLL and changes nothing else of the Formation Controller (R119). -/
theorem State.heardAtClose_formation (s : State) (n : Station) :
    (s.heardAtClose n).formation = { s.formation with roll := (s.heardAtClose n).formation.roll } := by
  rw [State.heardAtClose]
  split
  · rfl
  · simp only [State.becomeSynced]
    split <;> rfl

/-- The close of the window of a frame heard whole, another station's or its own, at a station at rest (R106). -/
theorem exec_responseWindowClose_of_closingFrame {s : State} {winner : Option Station} {own : Option OwnFrame}
    {f : Frame} (h : s.closingFrame winner own f) (ack rty : Bool) (order : List Nat) :
    exec (.responseWindowClose ack rty false order) s =
      .next ((s.heardAtClose f.sender).closeHeard own f.bytes
        { ack := ack || s.span.ack, rty := rty || s.span.rty, chk := false } order).refreshReq := by
  obtain ⟨hrest, htenure, hvalue, -, hchk, hintruder⟩ := h
  change Host.Outcome.next (s.onEvent fun s => s.closeWindow ack rty false order) = _
  rw [State.onEvent_of_atRest hrest]
  simp only [State.closeWindow, State.startEvent_span, htenure, hintruder, s.endWindow_setWinner_heard hvalue,
    State.readLines, hchk, State.followIntruder_absent]
  rfl

/-- A close with no held place has none to settle (R19). -/
theorem State.settlePlace_of_free {s : State} (h : s.home.heldPlace = false) (f : Frame) (o : SendOutcome) :
    s.settlePlace f o = s :=
  if_neg (by simp [h])

/-- With no held place, the close hands another station's frame on (R19, R107). -/
theorem State.closeHeard_other {s : State} (hplace : s.home.heldPlace = false) {f : Frame}
    (hvalue : f.long = false → f.value = zeroValue) (ack rty : Bool) (order : List Nat) :
    s.closeHeard none f.bytes { ack := ack, rty := rty, chk := false } order =
      s.handOn f (frameOutcome f.kind { ack := ack, rty := rty, chk := false }) false order := by
  simp [State.closeHeard, f.frameIntact_bytes, Frame.ofBytes_bytes hvalue, State.settlePlace_of_free hplace]

/-- An own CLOSE leaves the candidates and is then handed on (R112). -/
theorem State.closeHeard_ownClose {s : State} (hplace : s.home.heldPlace = false) {f : Frame}
    (hvalue : f.long = false → f.value = zeroValue) (hkind : f.kind = some .close) (ack rty : Bool)
    (order : List Nat) :
    s.closeHeard (some { source := .formation .close, frame := f }) f.bytes { ack := ack, rty := rty, chk := false }
        order =
      (s.formationSent .close .taken).handOn f .taken true order := by
  have houtcome : frameOutcome (some .close) { ack := ack, rty := rty, chk := false } = .taken := rfl
  have hsent : (s.formationSent .close .taken).home.heldPlace = false := hplace
  simp [State.closeHeard, f.frameIntact_bytes, Frame.ofBytes_bytes hvalue, State.targetEvidence, hkind, houtcome,
    State.ownSent, State.settlePlace_of_free hsent, State.requeueReform]

/-! ### What a forming station takes -/

/-- A LISTEN or ROLLED station: not in an epoch, and not shut out of one. -/
def FormationController.Forming (fc : FormationController) : Prop :=
  fc.state = .listen ∨ fc.state = .rolled

theorem FormationController.Forming.not_member {fc : FormationController} (h : fc.Forming) : fc.state ≠ .member := by
  rcases h with h | h <;> simp [h]

theorem State.heardAtClose_forming {s : State} (h : s.formation.Forming) (n : Station) :
    (s.heardAtClose n).formation.Forming := by
  rw [State.heardAtClose_formation]
  exact h

theorem State.handOn_taken {s : State} (h : s.formation.Forming) (f : Frame) (isOwn : Bool) (order : List Nat) :
    s.handOn f .taken isOwn order = s.takeForming f isOwn order := by
  rcases h with h | h <;> simp [State.handOn, h]

/-- A frame's kind by its code (R114). -/
theorem Frame.kind_of_code {f : Frame} {k : FrameKind} (h : f.code = k.code) : f.kind = some k := by
  rw [Frame.kind, h, FrameKind.ofCode_code]

/-! ### Exclusion -/

/-- The Formation Controller of an EXCLUDED station with the given heard epoch (R132). -/
def FormationController.excluded (fc : FormationController) (epoch : Epoch) : FormationController :=
  { fc with
    state := .excluded
    epoch := epoch
    rollList := 0
    highest := 0
    closeTimer := none
    recloseTimer := none
    members := []
    roll := none
    close := none }

/-- A station outside MEMBER state has no work to give up when it is excluded (R132). -/
theorem State.exclude_of_not_member {s : State} (h : s.formation.state ≠ .member) (epoch : Epoch)
    (order : List Nat) :
    s.exclude epoch order = ({ s with formation := s.formation.excluded epoch } : State).retest := by
  rw [State.exclude, if_neg h]
  rfl

/-- The frames that show a forming station that an epoch is under way without it: a taken frame of table traffic, or a
re-close (R130, R132). -/
theorem State.takeForming_foreign {f : Frame} (h : f.code ∈ ([8, 9, 10, 12] : List (BitVec 4)) ∨ f.code = 11 ∨
      f.code = 2 ∧ f.reclose = true) (s : State) (isOwn : Bool) (order : List Nat) :
    s.takeForming f isOwn order = s.exclude f.epoch order := by
  simp only [List.mem_cons, List.not_mem_nil, or_false] at h
  rcases h with (hfetch | hupdate | hdata | hrefuse) | hpublish | ⟨hclose, hreclose⟩
  · rw [State.takeForming, Frame.kind_of_code (k := .fetch) hfetch]
  · rw [State.takeForming, Frame.kind_of_code (k := .update) hupdate]
  · rw [State.takeForming, Frame.kind_of_code (k := .data) hdata]
  · rw [State.takeForming, Frame.kind_of_code (k := .refuse) hrefuse]
  · rw [State.takeForming, Frame.kind_of_code (k := .publish) hpublish]
  · rw [State.takeForming, Frame.kind_of_code (k := .close) hclose]
    exact if_pos hreclose

/-- An addressed frame is taken when its target drives ACK#, a PUBLISH or CLOSE whatever the lines but CHK# (R106). -/
theorem frameOutcome_taken {f : Frame} {ack : Bool}
    (h : f.code ∈ ([8, 9, 10, 12] : List (BitVec 4)) ∧ ack = true ∨ f.code = 11 ∨ f.code = 2) (rty : Bool) :
    frameOutcome f.kind { ack := ack, rty := rty, chk := false } = .taken := by
  simp only [List.mem_cons, List.not_mem_nil, or_false] at h
  rcases h with ⟨hfetch | hupdate | hanswer, rfl⟩ | hpublish | hclose
  · rw [Frame.kind_of_code (k := .fetch) hfetch]
    rfl
  · rw [Frame.kind_of_code (k := .update) hupdate]
    rfl
  · exact frameOutcome_of_answer hanswer rfl rty
  · rw [Frame.kind_of_code (k := .publish) hpublish]
    rfl
  · rw [Frame.kind_of_code (k := .close) hclose]
    rfl

/-! ### The obligation -/

/-- Settles O58: the frame is taken, and `State.exclude` overwrites the ROLL that the station queues where this frame
syncs it. -/
theorem foreignTrafficExcludesAFormingStation : Obligations.ForeignTrafficExcludesAFormingStation := by
  intro s winner f ack rty order hclosing hforming hforeign
  have ⟨_, _, hvalue, hplace, _, _⟩ := hclosing
  obtain ⟨-, hhome, hcopies, hslots, htracker, hwatch, hengine, hport⟩ := s.heardAtClose_frame f.sender
  have hformingClosed : (s.heardAtClose f.sender).formation.Forming := s.heardAtClose_forming hforming f.sender
  have houtcome : frameOutcome f.kind { ack := ack || s.span.ack, rty := rty || s.span.rty, chk := false } = .taken :=
    frameOutcome_taken (by simpa using hforeign.imp_right (.imp_right And.left)) _
  have hexec : exec (.responseWindowClose ack rty false order) s =
      .next (({ s.heardAtClose f.sender with
        formation := (s.heardAtClose f.sender).formation.excluded f.epoch } : State).retest).refreshReq := by
    rw [exec_responseWindowClose_of_closingFrame hclosing,
      State.closeHeard_other ((congrArg HomeEngine.heldPlace hhome).trans hplace) hvalue, houtcome,
      State.handOn_taken hformingClosed, State.takeForming_foreign (hforeign.imp_left And.left),
      State.exclude_of_not_member hformingClosed.not_member]
  rw [State.heardAtClose_formation] at hexec
  exact ⟨_, hexec, rfl, s.heardAtClose_synced f.sender, hhome, hcopies, hslots, htracker, hwatch,
    congrArg CommandEngine.retest hengine, hport⟩

end Sys2Proof.Machine
end

section
/-! PROOFS. Adopting a formation CLOSE (R124): the member table of its bitmap (R125), the home of a key (R4), and the
obligation. -/

namespace Sys2Proof.Machine

/-! ### The member table of a bitmap -/

/-- In an ascending list each station has as many stations below it as stand before it (R125). -/
theorem map_count_lower {xs : List Station} (h : xs.Pairwise fun x y => x.toNat < y.toNat) :
    xs.map (fun x => (xs.filter fun y => decide (y.toNat < x.toNat)).length) = List.range xs.length := by
  induction xs with
  | nil => rfl
  | cons a xs ih =>
    obtain ⟨ha, hxs⟩ := List.pairwise_cons.1 h
    have hfirst : (a :: xs).filter (fun y => decide (y.toNat < a.toNat)) = [] := by
      simpa using fun y hy => (ha y hy).le
    have hnext : ∀ x ∈ xs, ((a :: xs).filter fun y => decide (y.toNat < x.toNat)).length =
        (xs.filter fun y => decide (y.toNat < x.toNat)).length + 1 := by
      intro x hx
      simp [ha x hx]
    rw [List.map_cons, hfirst, List.map_congr_left hnext, List.length_cons, List.range_succ_eq_map, ← ih hxs,
      List.map_map]
    rfl

theorem stationsOf_ascend (b : StationSet) : (stationsOf b).Pairwise fun x y => x.toNat < y.toNat :=
  List.Pairwise.filter _ (by decide)

theorem membersOf_stations (b : StationSet) : (membersOf b).map Member.station = stationsOf b := by
  simp [membersOf, Function.comp_def]

/-- The ranks count up from 0 in ascending station number (R125). -/
theorem membersOf_ranks (b : StationSet) : (membersOf b).map Member.rank = List.range (membersOf b).length := by
  have hranks : (membersOf b).map Member.rank = (stationsOf b).map (rankIn b) := by
    simp [membersOf, Function.comp_def]
  rw [hranks, membersOf, List.length_map]
  exact map_count_lower (stationsOf_ascend b)

/-- Every member starts UP with count 0 (R125). -/
theorem membersOf_up {b : StationSet} {m : Member} (h : m ∈ membersOf b) :
    m.health = .up ∧ m.silence = 0 ∧ m.evidenceAt = none := by
  obtain ⟨st, -, rfl⟩ := List.mem_map.1 h
  exact ⟨rfl, rfl, rfl⟩

/-! ### The home of a key (R4) -/

theorem MemberLaw.eq_of_rank_eq {s : State} (law : MemberLaw s) {x m : Member} (hx : x ∈ s.formation.members)
    (hm : m ∈ s.formation.members) (h : x.rank = m.rank) : x = m := by
  have hnodup : (s.formation.members.map Member.rank).Nodup := law.ranks_count ▸ List.nodup_range
  exact List.inj_on_of_nodup_map hnodup hx hm h

/-- At a MEMBER some member has the rank that R4 gives a key. -/
theorem MemberLaw.exists_home {s : State} (law : MemberLaw s) (h : s.formation.state = .member) (k : Key) :
    ∃ m ∈ s.formation.members, m.rank = k.toNat % s.formation.members.length := by
  obtain ⟨self, hself, -⟩ := law.self_listed h
  have hrank : k.toNat % s.formation.members.length ∈ s.formation.members.map Member.rank := by
    rw [law.ranks_count, List.mem_range]
    exact Nat.mod_lt _ (List.length_pos_of_mem hself)
  exact List.mem_map.1 hrank

theorem MemberLaw.homeOf_eq {s : State} (law : MemberLaw s) {k : Key} {m : Member} (hm : m ∈ s.formation.members)
    (hrank : m.rank = k.toNat % s.formation.members.length) : s.formation.homeOf k = some m := by
  cases hhome : s.formation.homeOf k with
  | none =>
    have hother := List.find?_eq_none.1 hhome m hm
    simp [hrank] at hother
  | some x =>
    obtain ⟨hx, hxrank⟩ := FormationController.homeOf_spec hhome
    rw [law.eq_of_rank_eq hx hm (hxrank.trans hrank.symm)]

theorem State.ownHome_iff {s : State} {k : Key} {m : Member} (h : s.formation.state = .member)
    (hhome : s.formation.homeOf k = some m) : s.ownHome k = true ↔ m.station = s.pins.station := by
  simp [State.ownHome, h, hhome]

/-! ### Adopting the CLOSE (R124) -/

/-- The Formation Controller once a CLOSE withdrew what served the formation: the close timer, the roll list, the ROLL
and CLOSE candidates and LATE_ROLL. -/
def FormationController.formationOver (fc : FormationController) : FormationController :=
  { fc with
    closeTimer := none
    roll := none
    close := none
    rollList := 0
    highest := 0
    lateRoll := false }

theorem State.adoptClose_of_in_bitmap {s : State} {f : Frame} (h : f.key.getLsbD s.pins.station.toNat = true)
    (order : List Nat) :
    s.adoptClose f order = ({ s with
      formation := { s.formation.formationOver with
        state := .member, epoch := f.epoch, members := membersOf f.key } } : State).retest :=
  if_pos h

theorem State.adoptClose_of_not_in_bitmap {s : State} {f : Frame} (h : f.key.getLsbD s.pins.station.toNat = false)
    (hforming : s.formation.Forming) (order : List Nat) :
    s.adoptClose f order =
      ({ s with formation := s.formation.formationOver.excluded f.epoch } : State).retest := by
  have hadopt : s.adoptClose f order =
      ({ s with formation := s.formation.formationOver } : State).exclude f.epoch order :=
    if_neg (by simpa [inSet] using h)
  rw [hadopt, State.exclude_of_not_member (by exact hforming.not_member)]

/-- A CLOSE without the re-close flag that a forming station takes, another station's or its own, is adopted: the
candidate that the own CLOSE leaves is withdrawn by the adoption as well (R112, R124). -/
theorem exec_responseWindowClose_of_formationClose {s : State} {winner : Option Station} {own : Option OwnFrame}
    {f : Frame} (h : s.closingFrame winner own f) (hforming : s.formation.Forming) (hcode : f.code = 2)
    (hreclose : f.reclose = false) (hown : own = none ∨ own = some { source := .formation .close, frame := f })
    (ack rty : Bool) (order : List Nat) :
    exec (.responseWindowClose ack rty false order) s =
      .next ((s.heardAtClose f.sender).adoptClose f order).refreshReq := by
  have ⟨_, _, hvalue, hfree, _, _⟩ := h
  obtain ⟨-, hhome, -⟩ := s.heardAtClose_frame f.sender
  have hplace : (s.heardAtClose f.sender).home.heldPlace = false := (congrArg HomeEngine.heldPlace hhome).trans hfree
  have hkind : f.kind = some .close := Frame.kind_of_code hcode
  have hformingClosed : (s.heardAtClose f.sender).formation.Forming := s.heardAtClose_forming hforming f.sender
  have htake (t : State) (isOwn : Bool) : t.takeForming f isOwn order = t.adoptClose f order := by
    simp [State.takeForming, hkind, hreclose]
  rw [exec_responseWindowClose_of_closingFrame h]
  rcases hown with rfl | rfl
  · rw [State.closeHeard_other hplace hvalue, frameOutcome_taken (.inr (.inr hcode)),
      State.handOn_taken hformingClosed, htake]
  · have hformingSent : ((s.heardAtClose f.sender).formationSent .close .taken).formation.Forming := hformingClosed
    rw [State.closeHeard_ownClose hplace hvalue hkind, State.handOn_taken hformingSent, htake]
    rfl

/-! ### The obligation -/

/-- Settles O56: the CLOSE is adopted by `State.adoptClose`, the re-close timer being clear outside MEMBER state; the
ranks of the table name one home for each key. -/
theorem formationCloseIsAdopted : Obligations.FormationCloseIsAdopted := by
  refine ⟨fun s winner own f ack rty order hclosing law hforming hcode hreclose _ hown => ?adopted,
    fun s k law hmember => ?home⟩
  case adopted =>
    obtain ⟨hpins, hhome, hcopies, hslots, htracker, hwatch, hengine, hport⟩ := s.heardAtClose_frame f.sender
    have hsynced := s.heardAtClose_synced f.sender
    have hlast := s.heardAtClose_lastWinner f.sender
    have hretest := congrArg CommandEngine.retest hengine
    have hformation := s.heardAtClose_formation f.sender
    have hreform := congrArg FormationController.reform hformation
    have hreclose0 : (s.heardAtClose f.sender).formation.recloseTimer = none :=
      (congrArg FormationController.recloseTimer hformation).trans <|
        not_not.1 fun htimer => FormationController.Forming.not_member hforming (law.reclose_timer_member htimer)
    have hexec := exec_responseWindowClose_of_formationClose hclosing hforming hcode hreclose hown ack rty order
    cases hbit : f.key.getLsbD s.pins.station.toNat with
    | true =>
      rw [State.adoptClose_of_in_bitmap (by rwa [hpins])] at hexec
      exact ⟨_, hexec, rfl, hreclose0, rfl, rfl, rfl, rfl, rfl, hreform, rfl,
        fun _ => ⟨rfl, membersOf_stations f.key, membersOf_ranks f.key, fun m hm => membersOf_up hm⟩, nofun,
        hsynced, hlast, hhome, hcopies, hslots, htracker, hwatch, hretest, hport⟩
    | false =>
      rw [State.adoptClose_of_not_in_bitmap (by rwa [hpins]) (s.heardAtClose_forming hforming f.sender)] at hexec
      exact ⟨_, hexec, rfl, rfl, rfl, rfl, rfl, rfl, rfl, hreform, rfl, nofun, fun _ => ⟨rfl, rfl⟩,
        hsynced, hlast, hhome, hcopies, hslots, htracker, hwatch, hretest, hport⟩
  case home =>
    obtain ⟨m, hm, hrank⟩ := law.exists_home hmember k
    have hhome := law.homeOf_eq hm hrank
    exact ⟨m, hm, hhome, hrank, fun x hx hxrank => law.eq_of_rank_eq hx hm (hxrank.trans hrank.symm),
      State.ownHome_iff hmember hhome⟩

end Sys2Proof.Machine
end

section
/-! PROOFS. The checks of form at the head (R141, R142), and the completion of a command that fails one (R155). -/

namespace Sys2Proof.Machine

/-! ### The kinds that R141 does not name -/

theorem CommandKind.ofCode_eq_none_iff (b : Byte) :
    CommandKind.ofCode b = none ↔ b.toNat = 0 ∨ 14 ≤ b.toNat := by
  simp only [CommandKind.ofCode, ite_eq_iff, reduceCtorEq, and_false, false_or, and_true]
  bv_omega

/-! ### The checks in the words of R142's table -/

theorem CommandKind.readsKey_iff (kind : CommandKind) :
    kind.readsKey = true ↔ kind ∉ ([.commit, .release, .fence, .reform] : List CommandKind) := by
  cases kind <;> decide

theorem CommandKind.needsLong_iff (kind : CommandKind) :
    kind.needsLong = true ↔ kind ∈ ([.write, .swap, .add, .commit] : List CommandKind) := by
  cases kind <;> decide

theorem CommandKind.readsSlot_iff (kind : CommandKind) :
    kind.readsSlot = true ↔ kind ∈ ([.reserve, .commit, .release] : List CommandKind) := by
  cases kind <;> decide

theorem CommandRecord.slotIndex_isNone_iff (c : CommandRecord) : c.slotIndex.isNone = true ↔ 4 ≤ c.slot.toNat := by
  simp [CommandRecord.slotIndex]

theorem formError_eq_table (kind : CommandKind) (c : CommandRecord) :
    formError kind c =
      if kind ∉ ([.commit, .release, .fence, .reform] : List CommandKind) ∧ 4096 ≤ c.key.toNat then some .badKey
      else if kind ∈ ([.write, .swap, .add, .commit] : List CommandKind) ∧ c.long = false then some .badField
      else if kind ∈ ([.reserve, .commit, .release] : List CommandKind) ∧ 4 ≤ c.slot.toNat then some .badField
      else if kind = .add ∧ 8 ≤ c.wordIndex.toNat then some .badField
      else if c.zeroByte ≠ 0 then some .badField
      else none := by
  simp only [formError, Bool.and_eq_true, Bool.not_eq_true', beq_iff_eq, bne_iff_ne, decide_eq_true_eq,
    CommandKind.readsKey_iff, CommandKind.needsLong_iff, CommandKind.readsSlot_iff, keyInRange_eq_false_iff,
    CommandRecord.slotIndex_isNone_iff]

/-! ### The key of the completion -/

/-- The first line of R155's table: a COMMIT or RELEASE carries its slot's key if its slot field names a slot. -/
theorem State.completionKey_eq_table (s : State) (kind : CommandKind) (c : CommandRecord) :
    s.completionKey kind c =
      if kind = .fence ∨ kind = .reform then 0
      else if h : (kind = .commit ∨ kind = .release) ∧ c.slot.toNat < 4 then (s.slots[c.slot.toNat]'h.2).key
      else c.key := by
  have hslot : (s.slotKey c).getD c.key =
      if h : c.slot.toNat < 4 then (s.slots[c.slot.toNat]'h).key else c.key := by
    by_cases h : c.slot.toNat < 4 <;> simp [State.slotKey, CommandRecord.slotIndex, h]
  cases kind with
  | commit | release => simpa [State.completionKey] using hslot
  | fence | reform => rfl
  | read | write | swap | add | delete | reserve | watch | unwatch | drop => simp [State.completionKey]

/-! ### The head that fails a check, and the head of unknown kind -/

theorem State.atHead_of_malformed {s : State} {kind : CommandKind} {c : CommandRecord} {o : CmdOutcome}
    (h : s.atHeadOf kind c) (hform : formError kind c = some o) (serve : CommandRecord → State → State) :
    s.atHead kind serve = s.finishPlain kind c o 0 := by
  obtain ⟨-, hhead, hkind⟩ := h
  simp [State.atHead, State.head, CommandRecord.command, hhead, hkind, hform]

theorem State.reformAtHead_of_malformed {s : State} {c : CommandRecord} {o : CmdOutcome}
    (h : s.atHeadOf .reform c) (hform : formError .reform c = some o) :
    s.reformAtHead = s.finishPlain .reform c o 0 := by
  obtain ⟨-, hhead, hkind⟩ := h
  simp [State.reformAtHead, State.head, CommandRecord.command, hhead, hkind, hform]

/-- The checks of form come before everything else at the head, also before the station state (R139). -/
theorem exec_row_of_malformed {s : State} {kind : CommandKind} {c : CommandRecord} {o : CmdOutcome}
    (h : s.atHeadOf kind c) (hform : formError kind c = some o) :
    exec kind.row s = .next (s.finishPlain kind c o 0).refreshReq := by
  have hrow (f : State → State) (hf : f s = s.finishPlain kind c o 0) :
      (.next (s.followOn f) : Host.Outcome State Fault Refusal) = .next (s.finishPlain kind c o 0).refreshReq := by
    rw [State.followOn_of_ready h.1, hf]
  cases kind with
  | reform => exact hrow State.reformAtHead (State.reformAtHead_of_malformed h hform)
  | read | write | swap | add | delete | reserve | commit | release | fence | watch | unwatch | drop =>
    exact hrow (fun s => s.atHead _ _) (State.atHead_of_malformed h hform _)

theorem State.badAtHead_of_unknown {s : State} {c : CommandRecord} (hhead : s.port.commands.head? = some c)
    (hkind : CommandKind.ofCode c.kind = none) :
    s.badAtHead = s.finishHead (plainRecord c c.key .badCommand 0) := by
  simp [State.badAtHead, State.head, CommandRecord.command, hhead, hkind, plainRecord]

theorem exec_badCommand_of_ready {s : State} (h : s.ready) : exec .badCommand s = .next s.badAtHead.refreshReq := by
  change Host.Outcome.next (s.followOn State.badAtHead) = _
  rw [State.followOn_of_ready h]

/-! ### The obligation -/

/-- Settles O19: `formError` is R142's table and `State.completionKey` the key of R155's, so a command that fails a check
leaves the head by `State.finishPlain`; the kinds that R141 does not name are those of no command. -/
theorem malformedCommandCompletesAtOnce : Obligations.MalformedCommandCompletesAtOnce := by
  refine ⟨?malformed, fun s c hready hhead hkind => ?unknown⟩
  case malformed =>
    intro s kind c outcome hhead failed key hfailed
    have hform : formError kind c = some outcome := (formError_eq_table kind c).trans hfailed
    have hkey : s.completionKey kind c = key := s.completionKey_eq_table kind c
    rw [exec_row_of_malformed hhead hform, State.finishPlain, State.finishHead_eq, State.plainCompletion, hkey]
    simp only [List.isEmpty_iff]
    rfl
  case unknown =>
    have hunknown : CommandKind.ofCode c.kind = none := (CommandKind.ofCode_eq_none_iff c.kind).2 hkind
    rw [exec_badCommand_of_ready hready, State.badAtHead_of_unknown hhead hunknown]

end Sys2Proof.Machine
end

section
/-! PROOFS. The Watch Unit's searches, WATCH and UNWATCH on the watch table (R157, R159, R160), and the obligation. -/

namespace Sys2Proof.Machine

/-! ### The entry of a key -/

/-- An entry is in use when it is ARMED or FIRED (R157). -/
theorem WatchEntry.inUse_iff {w : WatchEntry} : w.inUse = true ↔ w.state ≠ .free := by
  simp [WatchEntry.inUse]

/-- In a lawful table a key has one entry, which a search for it finds (R157). -/
theorem WatchLaw.entryOf_eq {s : State} (law : WatchLaw s) {k : Key} {i : Fin 32}
    (hi : s.watch.entries[i].state ≠ .free) (hk : s.watch.entries[i].key = k) : s.watch.entryOf k = some i := by
  have hused : s.watch.entries[i].inUse = true := WatchEntry.inUse_iff.2 hi
  cases h : s.watch.entryOf k with
  | none => exact absurd hk (WatchUnit.entryOf_none h i hused)
  | some j =>
    obtain ⟨hj, hjk⟩ := WatchUnit.entryOf_spec h
    rw [law.key_once j i hj hused (hjk.trans hk.symm)]

theorem WatchUnit.entryOf_eq_none {w : WatchUnit} {k : Key}
    (h : ∀ j : Fin 32, w.entries[j].state ≠ .free → w.entries[j].key ≠ k) : w.entryOf k = none := by
  cases hj : w.entryOf k with
  | none => rfl
  | some j =>
    obtain ⟨hused, hk⟩ := WatchUnit.entryOf_spec hj
    exact absurd hk (h j (WatchEntry.inUse_iff.1 hused))

/-! ### The FREE entry of the lowest index -/

theorem allWatches_split (i : Fin 32) : ∃ before after, allWatches = before ++ i :: after ∧ ∀ j ∈ before, j < i := by
  have hascend : allWatches.Pairwise (· < ·) := by decide
  obtain ⟨before, after, hsplit⟩ := List.append_of_mem (mem_allWatches i)
  rw [hsplit, List.pairwise_append] at hascend
  obtain ⟨-, -, hlower⟩ := hascend
  exact ⟨before, after, hsplit, fun j hj => hlower j hj i List.mem_cons_self⟩

theorem WatchUnit.firstFree_eq {w : WatchUnit} {i : Fin 32} (hi : w.entries[i].state = .free)
    (hlower : ∀ j : Fin 32, j < i → w.entries[j].state ≠ .free) : w.firstFree = some i := by
  obtain ⟨before, after, hsplit, hbefore⟩ := allWatches_split i
  exact List.find?_eq_some_iff_append.2
    ⟨by simpa using hi, before, after, hsplit, fun j hj => by simpa using hlower j (hbefore j hj)⟩

theorem WatchUnit.firstFree_eq_none {w : WatchUnit} (h : ∀ j : Fin 32, w.entries[j].state ≠ .free) :
    w.firstFree = none :=
  List.find?_eq_none.2 fun j _ => by simpa using h j

/-! ### What WATCH and UNWATCH make of the table -/

theorem WatchUnit.arm_of_watched {w : WatchUnit} {k : Key} {i : Fin 32} (h : w.entryOf k = some i)
    (cookie : Cookie) (every : Bool) :
    w.arm k cookie every =
      some { w with entries := w.entries.set i { w.entries[i] with cookie := cookie, every := every } } := by
  simp only [WatchUnit.arm, h]

theorem WatchUnit.arm_of_free {w : WatchUnit} {k : Key} {i : Fin 32} (h : w.entryOf k = none)
    (hfree : w.firstFree = some i) (cookie : Cookie) (every : Bool) :
    w.arm k cookie every =
      some { w with
        entries := w.entries.set i
          { state := .armed, key := k, cookie := cookie, every := every, firing := .cleared } } := by
  simp only [WatchUnit.arm, h, hfree]

theorem WatchUnit.arm_of_full {w : WatchUnit} {k : Key} (h : w.entryOf k = none) (hfull : w.firstFree = none)
    (cookie : Cookie) (every : Bool) : w.arm k cookie every = none := by
  simp only [WatchUnit.arm, h, hfull]

theorem WatchUnit.disarm_of_watched {w : WatchUnit} {k : Key} {i : Fin 32} (h : w.entryOf k = some i) :
    w.disarm k = { entries := w.entries.set i .cleared, fired := w.fired.filter (· ≠ i) } := by
  have hleave : w.fired.filter (· != i) = w.fired.filter (· ≠ i) := List.filter_congr fun j _ =>
    Bool.eq_iff_iff.2 (by simp)
  simp only [WatchUnit.disarm, h, hleave]

theorem WatchUnit.disarm_of_unwatched {w : WatchUnit} {k : Key} (h : w.entryOf k = none) : w.disarm k = w := by
  simp only [WatchUnit.disarm, h]

/-! ### The commands at step 8 -/

theorem exec_watch_of_reachesStep8 {s : State} {c : CommandRecord} (h : s.reachesStep8 .watch c) :
    exec .watch s = .next (s.serveWatch c).refreshReq := by
  change Host.Outcome.next (s.followOn fun s => s.atHead .watch State.serveWatch) = _
  rw [State.followOn_of_ready h.1.1, State.atHead_of_reachesStep8 h]

theorem exec_watch_of_armed {s : State} {c : CommandRecord} {w : WatchUnit} (h : s.reachesStep8 .watch c)
    (harm : s.watch.arm c.key c.cookie c.every = some w) :
    exec .watch s =
      .next (({ s with watch := w } : State).finishHead (plainRecord c c.key .ok 0)).refreshReq := by
  rw [exec_watch_of_reachesStep8 h, State.serveWatch, harm]
  rfl

theorem exec_watch_of_full {s : State} {c : CommandRecord} (h : s.reachesStep8 .watch c)
    (harm : s.watch.arm c.key c.cookie c.every = none) :
    exec .watch s = .next (s.finishHead (plainRecord c c.key .watchFull 0)).refreshReq := by
  rw [exec_watch_of_reachesStep8 h, State.serveWatch, harm]
  rfl

theorem exec_unwatch_of_reachesStep8 {s : State} {c : CommandRecord} (h : s.reachesStep8 .unwatch c) :
    exec .unwatch s =
      .next (({ s with watch := s.watch.disarm c.key } : State).finishHead
        (plainRecord c c.key .ok 0)).refreshReq := by
  change Host.Outcome.next (s.followOn fun s => s.atHead .unwatch State.serveUnwatch) = _
  rw [State.followOn_of_ready h.1.1, State.atHead_of_reachesStep8 h]
  rfl

/-! ### The obligation -/

/-- Settles O28: a lawful table has at most one entry of the key; the search for it, and where it finds none the search
for a FREE entry, decide which case of `WatchUnit.arm` and `WatchUnit.disarm` applies. -/
theorem watchAndUnwatchKeepTheWatchTable : Obligations.WatchAndUnwatchKeepTheWatchTable := by
  intro s c kind law hreach done cookie every unwatched
  have hnone (h : unwatched) : s.watch.entryOf c.key = none := WatchUnit.entryOf_eq_none h
  refine ⟨fun i hused hkey => ?watched, fun i h hfree hlower => ?free, fun h hfull => ?full, fun h => ?unwatch⟩
  case watched =>
    have hentry : s.watch.entryOf c.key = some i := law.entryOf_eq hused hkey
    constructor
    · rintro rfl
      exact exec_watch_of_armed hreach (WatchUnit.arm_of_watched hentry c.cookie c.every)
    · rintro rfl
      rw [exec_unwatch_of_reachesStep8 hreach, WatchUnit.disarm_of_watched hentry]
      rfl
  case free =>
    rintro rfl
    have hfirst : s.watch.firstFree = some i := WatchUnit.firstFree_eq hfree hlower
    exact exec_watch_of_armed hreach (WatchUnit.arm_of_free (hnone h) hfirst c.cookie c.every)
  case full =>
    rintro rfl
    have hfirst : s.watch.firstFree = none := WatchUnit.firstFree_eq_none hfull
    exact exec_watch_of_full hreach (WatchUnit.arm_of_full (hnone h) hfirst c.cookie c.every)
  case unwatch =>
    rintro rfl
    rw [exec_unwatch_of_reachesStep8 hreach, WatchUnit.disarm_of_unwatched (hnone h)]

end Sys2Proof.Machine
end

section
/-! PROOFS. What a command can do to the station, said once. `State.Acts` lists the single changes of the blocks, each
with the condition under which the model makes it; `exec_cases` says that a command is a sequence of them and of changes
of the Span Interface, or the rise of RESET#. What every step keeps is then a case split over these changes. -/

namespace Sys2Proof.Machine

/-! ### The changes of one block -/

/-- One change of the Copy Table (chapter 3). A claim is for a key without an entry (R44). -/
inductive CopyTable.Edits (t : CopyTable) : CopyTable → Prop
  | touch (k : Key) : t.Edits (t.touchKey k)
  | claim (k : Key) (h : t.entry k = none) : t.Edits (t.claimKey k)
  | put (k : Key) (r : TableRecord) : t.Edits (t.putRecord k r)
  | drop (k : Key) : t.Edits (t.dropKey k)
  | endFilling (k : Key) : t.Edits (t.endFilling k)
  | releaseWhere (p : Key → Bool) : t.Edits (t.releaseWhere p)
  | reset : t.Edits .afterReset

/-- One change of the Watch Unit (chapter 9); a delivery is a change of the Host Port too, and stands in
`State.Acts`. -/
inductive WatchUnit.Edits (w : WatchUnit) : WatchUnit → Prop
  | arm (k : Key) (cookie : Cookie) (every : Bool) (w' : WatchUnit) (h : w.arm k cookie every = some w') : w.Edits w'
  | disarm (k : Key) : w.Edits (w.disarm k)
  | fire (i : Fin 32) (f : Firing) : w.Edits (w.fire i f)

/-- One change of the Home Engine (chapter 2). A frame joins the outbound queue where there is room; a PUBLISH joins and
leaves it together with its mark. -/
inductive HomeEngine.Edits (h : HomeEngine) : HomeEngine → Prop
  | popInbound : h.Edits { h with inbound := h.inbound.tail }
  | joinInbound (q : InboundEntry) (room : h.hasInboundPlace = true) : h.Edits { h with inbound := h.inbound ++ [q] }
  | takePlace (q : InboundEntry) (held : h.heldPlace = true) :
    h.Edits { h with heldPlace := false, inbound := h.inbound ++ [q] }
  | releasePlace : h.Edits { h with heldPlace := false }
  | holdPlace (room : h.inbound.length < 8) : h.Edits { h with heldPlace := true }
  | send (o : OutboundEntry) (room : h.outbound.length < 8) (kind : o.frame.kind ≠ some .publish) :
    h.Edits { h with outbound := h.outbound ++ [o] }
  | publish (o : OutboundEntry) (room : h.outbound.length < 8) (kind : o.frame.kind = some .publish)
    (free : (storeGet h.store o.frame.key.toNat).publishing = false) :
    h.Edits { h with store := storeMark h.store o.frame.key true, outbound := h.outbound ++ [o] }
  | leave (o : OutboundEntry) (rest : List OutboundEntry) (head : h.outbound = o :: rest)
    (kind : o.frame.kind ≠ some .publish) : h.Edits { h with outbound := rest }
  | count (o : OutboundEntry) (rest : List OutboundEntry) (head : h.outbound = o :: rest) (attempts : Nat) :
    h.Edits { h with outbound := { o with attempts := attempts } :: rest }
  | unpublish (o : OutboundEntry) (rest : List OutboundEntry) (head : h.outbound = o :: rest)
    (kind : o.frame.kind = some .publish) (refuse : Option OutboundEntry)
    (refuses : ∀ x ∈ refuse, x.frame.kind ≠ some .publish) :
    h.Edits { h with
      store := storeMark h.store o.frame.key false
      outbound := rest ++ refuse.toList }
  | commit (o : OutboundEntry) (rest : List OutboundEntry) (head : h.outbound = o :: rest)
    (kind : o.frame.kind = some .publish) (r : TableRecord) :
    h.Edits { h with store := storeCommit h.store o.frame.key r, outbound := rest }
  | abandon :
    h.Edits { store := storeClearMarks h.store, inbound := [], heldPlace := false, outbound := [] }

/-- One change of the Formation Controller of the station `self` (chapter 7) that leaves the REFORM commands it holds. -/
inductive FormationController.Edits (fc : FormationController) (self : Station) : FormationController → Prop
  | alive (st : Station) (now : Time) (h : st ≠ self) : fc.Edits self (fc.modify st (Member.alive now))
  | silenced (st : Station) (now : Time) (h : st ≠ self) : fc.Edits self (fc.modify st (Member.silenced now))
  | silent (m : Member) (hm : m ∈ fc.members) (due : m.dueSilent = true) :
    fc.Edits self (fc.modify m.station fun x => { x with health := .silent })
  | lost (st : Station) (h : st ≠ self) : fc.Edits self (fc.modify st fun x => { x with health := .lost })
  | startReclose (t : Time) (h : fc.state = .member) : fc.Edits self { fc with recloseTimer := some t }
  | stopReclose (close : Option CloseFrame) : fc.Edits self { fc with recloseTimer := none, close := close }
  | closeExpires (close : CloseFrame) : fc.Edits self { fc with closeTimer := none, close := some close }
  | recordRoll (rollList : StationSet) (highest : Epoch) (h : fc.Forming) :
    fc.Edits self { fc with rollList := rollList, highest := highest, close := none }
  | becomeRolled (timer : Time) (h : fc.Forming) : fc.Edits self { fc with state := .rolled, closeTimer := some timer }
  | rollSent : fc.Edits self { fc with roll := none }
  | closeSent : fc.Edits self { fc with close := none }
  | reform (e : Epoch) : fc.Edits self { fc with reform := some e }
  | lateRoll (b : Bool) : fc.Edits self { fc with lateRoll := b }
  | heardEpoch (e : Epoch) : fc.Edits self { fc with epoch := e }
  | queueRoll (e : Epoch) (h : fc.state = .listen) : fc.Edits self { fc with roll := some e }
  | adopt (b : StationSet) (e : Epoch) (forming : fc.Forming) (h : inSet b self = true) :
    fc.Edits self { fc.formationOver with state := .member, epoch := e, members := membersOf b }
  | exclude (e : Epoch) : fc.Edits self (fc.excluded e)

/-- A change of the Formation Controller leaves the REFORM commands it holds. -/
theorem FormationController.Edits.reformTags {fc fc' : FormationController} {self : Station}
    (h : fc.Edits self fc') : fc'.reformTags = fc.reformTags := by
  cases h <;> rfl

/-! ### The changes of the station's blocks -/

/-- One change of the blocks behind the Span Interface, which none of them touches. -/
inductive State.Acts (s : State) : State → Prop
  /-- The head is tested again or waits (R138, R140). -/
  | engine (e : CommandEngine) : s.Acts { s with engine := e }
  /-- The Host Port shifts out, notes a flag or returns a record; no command or record joins (chapter 10). -/
  | port (p : HostPort) (seen : List Sample) (commands : p.commands = s.port.commands)
    (outstanding : p.outstanding = s.port.outstanding)
    (completions : p.completions.length ≤ s.port.completions.length) : s.Acts { s with port := p, seen := seen }
  /-- A PUT is accepted (R169). -/
  | accept (c : CommandRecord) (room : s.port.room = true) : s.Acts (s.acceptCommand c)
  /-- The head completes at once (R155). -/
  | finish (c : Completion) (head : s.port.commands ≠ []) : s.Acts (s.finishHead c)
  /-- A REFORM is handed over (R154). -/
  | handOver (c : CommandRecord) (head : s.port.commands ≠ []) : s.Acts (s.handOverReform c)
  /-- The head gets a pending entry for a key and slot that have none, and a slot it names may become COMMITTING
  (R68, R77, R144). -/
  | dispatch (i : Fin 8) (e : PendingEntry) (slots : Vector Slot 4) (head : s.port.commands ≠ [])
    (free : s.tracker.entries[i] = none) (key : s.tracker.keyPending e.key = false)
    (slot : ∀ n, e.slot = some n → s.tracker.slotBusy n = false)
    (committing : ∀ n : Fin 4, slots[n].state = .committing → s.slots[n].state = .committing ∨ e.slot = some n) :
    s.Acts ({ s with tracker := s.tracker.allocate i e, slots := slots } : State).leaveHead
  /-- Slots change, but none becomes COMMITTING (chapter 4). -/
  | slots (v : Vector Slot 4) (committing : ∀ n : Fin 4, v[n].state = .committing → s.slots[n].state = .committing) :
    s.Acts { s with slots := v }
  | copies (t : CopyTable) (h : s.copies.Edits t) : s.Acts { s with copies := t }
  | watch (w : WatchUnit) (h : s.watch.Edits w) : s.Acts { s with watch := w }
  /-- A notice is delivered (R164). -/
  | deliver (ahead : Nat) : s.Acts (s.deliverNotice ahead)
  | home (h' : HomeEngine) (h : s.home.Edits h') : s.Acts { s with home := h' }
  /-- Only a synced station changes its station state. -/
  | formation (fc : FormationController) (h : s.formation.Edits s.pins.station fc)
    (synced : s.span.synced = true ∨ fc.state = s.formation.state) : s.Acts { s with formation := fc }
  /-- An entry ends: its completion joins the queue and a slot that it names is COMMITTING no more (R88). -/
  | endEntry (i : Fin 8) (e : PendingEntry) (c : Completion) (slots : Vector Slot 4)
    (entry : s.tracker.entries[i] = some e)
    (committing : ∀ n : Fin 4, slots[n].state = .committing → s.slots[n].state = .committing ∧ e.slot ≠ some n) :
    s.Acts { s with
      slots := slots
      tracker := s.tracker.free i
      engine := s.engine.retest
      port := s.port.complete c }
  /-- A send is counted at its entry (R79 to R81). -/
  | sent (i : Fin 8) (e e' : PendingEntry) (entry : s.tracker.entries[i] = some e) (tag : e'.tag = e.tag)
    (key : e'.key = e.key) (slot : e'.slot = e.slot) :
    s.Acts { s with tracker := { s.tracker with entries := s.tracker.entries.set i (some e') } }
  /-- A REFORM is taken by a synced station (R135). -/
  | takeReform (sender : Station) (epoch : Epoch) (order : List Nat) (synced : s.span.synced = true) :
    s.Acts (s.takeReform sender epoch order)

/-- A sequence of changes of the blocks. -/
def State.Works : State → State → Prop :=
  Relation.ReflTransGen State.Acts

/-- One change of the station out of reset: of a block, or of the Span Interface, the pins and the clock, with the
strapped number kept. -/
inductive State.Moves (s : State) : State → Prop
  | acts {t : State} (h : s.Acts t) : s.Moves t
  | span (now : Time) (pins : Pins) (span : SpanInterface) (station : pins.station = s.pins.station) :
    s.Moves { s with clock := now, pins := pins, span := span }

/-- A sequence of changes of the station. -/
def State.Reaches : State → State → Prop :=
  Relation.ReflTransGen State.Moves

theorem State.Works.refl (s : State) : s.Works s := Relation.ReflTransGen.refl
theorem State.Works.trans {s t u : State} (h : s.Works t) (h' : t.Works u) : s.Works u :=
  Relation.ReflTransGen.trans h h'
theorem State.Acts.works {s t : State} (h : s.Acts t) : s.Works t := Relation.ReflTransGen.single h

theorem State.Reaches.refl (s : State) : s.Reaches s := Relation.ReflTransGen.refl
theorem State.Reaches.trans {s t u : State} (h : s.Reaches t) (h' : t.Reaches u) : s.Reaches u :=
  Relation.ReflTransGen.trans h h'
theorem State.Moves.reaches {s t : State} (h : s.Moves t) : s.Reaches t := Relation.ReflTransGen.single h
theorem State.Works.reaches {s t : State} (h : s.Works t) : s.Reaches t :=
  Relation.ReflTransGen.mono (fun _ _ => State.Moves.acts) _ _ h

/-- A fold of steps works where each step does. -/
theorem State.works_foldl {α : Type} {f : State → α → State} (h : ∀ (s : State) (a : α), s.Works (f s a)) :
    ∀ (xs : List α) (s : State), s.Works (xs.foldl f s)
  | [], s => .refl s
  | x :: xs, s => (h s x).trans (works_foldl h xs (f s x))

/-- What every change of a block keeps, work keeps. -/
theorem State.Works.keeps {P : State → Prop} (hP : ∀ s t : State, s.Acts t → P s → P t) {s t : State}
    (h : s.Works t) (hs : P s) : P t := by
  induction h with
  | refl => exact hs
  | tail _ hact ih => exact hP _ _ hact ih

/-- What every change keeps, a sequence of them keeps. -/
theorem State.Reaches.keeps {P : State → Prop} (hP : ∀ s t : State, s.Moves t → P s → P t) {s t : State}
    (h : s.Reaches t) (hs : P s) : P t := by
  induction h with
  | refl => exact hs
  | tail _ hmove ih => exact hP _ _ hmove ih

/-! ### What the changes of the blocks leave -/

/-- The completions of a taken REFORM leave all but the pending entries and what hangs on them. -/
theorem State.reformCompletion_frame (s : State) (x : Fin 8 ⊕ HostTag) :
    let t := s.reformCompletion x
    t.clock = s.clock ∧ t.pins = s.pins ∧ t.span = s.span ∧ t.formation = s.formation ∧ t.home = s.home ∧
      t.watch = s.watch ∧ t.pending = s.pending ∧ t.port.commands = s.port.commands ∧
      t.tracker.generations = s.tracker.generations ∧ t.tracker.nextIndex = s.tracker.nextIndex := by
  cases x with
  | inl i =>
    obtain ⟨hclock, hpins, hspan, hformation, hhome, hwatch, hpending, hcommands, hgenerations, hnext, -⟩ :=
      s.failEntry_frame i .reformed 0
    exact ⟨hclock, hpins, hspan, hformation, hhome, hwatch, hpending, hcommands, hgenerations, hnext⟩
  | inr tag => exact ⟨rfl, rfl, rfl, rfl, rfl, rfl, rfl, rfl, rfl, rfl⟩

/-- The completions of a taken REFORM, in the given order (R94, R134). -/
def State.reformCompletions (s : State) (xs : List (Fin 8 ⊕ HostTag)) : State :=
  xs.foldl State.reformCompletion s

theorem State.reformCompletions_frame (xs : List (Fin 8 ⊕ HostTag)) (s : State) :
    let t := s.reformCompletions xs
    t.clock = s.clock ∧ t.pins = s.pins ∧ t.span = s.span ∧ t.formation = s.formation ∧ t.home = s.home ∧
      t.watch = s.watch ∧ t.pending = s.pending ∧ t.port.commands = s.port.commands ∧
      t.tracker.generations = s.tracker.generations ∧ t.tracker.nextIndex = s.tracker.nextIndex := by
  induction xs generalizing s with
  | nil => exact ⟨rfl, rfl, rfl, rfl, rfl, rfl, rfl, rfl, rfl, rfl⟩
  | cons x xs ih =>
    obtain ⟨a1, a2, a3, a4, a5, a6, a7, a8, a9, a10⟩ := s.reformCompletion_frame x
    obtain ⟨b1, b2, b3, b4, b5, b6, b7, b8, b9, b10⟩ := ih (s.reformCompletion x)
    exact ⟨b1.trans a1, b2.trans a2, b3.trans a3, b4.trans a4, b5.trans a5, b6.trans a6, b7.trans a7, b8.trans a8,
      b9.trans a9, b10.trans a10⟩

/-- Which completions a taken REFORM makes: one for each pending entry and for each REFORM command held (R94, R134). -/
def State.reformEnds (s : State) : List (Fin 8 ⊕ HostTag) :=
  (s.tracker.indices fun _ => true).map Sum.inl ++ s.formation.reformTags.map Sum.inr

/-- The Formation Controller after a REFORM is taken (R135). -/
def FormationController.reformed (fc : FormationController) (epoch : Epoch) : FormationController :=
  { state := .listen
    epoch := epoch
    proposal := epoch
    rollList := 0
    highest := 0
    closeTimer := none
    recloseTimer := none
    members := []
    lateRoll := fc.lateRoll
    reform := none
    roll := some epoch
    close := none
    reformTags := [] }

/-- A taken REFORM, block by block (R135). -/
theorem State.takeReform_eq (s : State) (sender : Station) (epoch : Epoch) (order : List Nat) :
    s.takeReform sender epoch order =
      { s.reformCompletions (arrange order s.reformEnds) with
        formation := s.formation.reformed epoch
        home := .afterReset
        copies := .afterReset
        slots := Slot.afterReset
        watch := s.watch.fireAll WatchEntry.inUse { reason := .reformed, origin := sender, record := .cleared }
        engine := (s.reformCompletions (arrange order s.reformEnds)).engine.retest } := by
  obtain ⟨-, -, -, hformation, -, hwatch, -⟩ := State.reformCompletions_frame (arrange order s.reformEnds) s
  rw [← hwatch, FormationController.reformed, ← hformation]
  rfl

/-- A delivery writes the Host Port and the Watch Unit (R164). -/
theorem State.deliverNotice_frame (s : State) (ahead : Nat) :
    s.deliverNotice ahead =
      { s with port := (s.deliverNotice ahead).port, watch := (s.deliverNotice ahead).watch } := by
  rw [State.deliverNotice]
  split
  · split <;> rfl
  · rfl

/-- No change of a block touches the clock, the pins, the Span Interface or the queue of commands. -/
theorem State.Acts.frame {s t : State} (h : s.Acts t) :
    t.clock = s.clock ∧ t.pins = s.pins ∧ t.span = s.span ∧ t.pending = s.pending := by
  cases h with
  | deliver ahead =>
    rw [s.deliverNotice_frame ahead]
    exact ⟨rfl, rfl, rfl, rfl⟩
  | takeReform sender epoch order _ =>
    rw [s.takeReform_eq]
    obtain ⟨hclock, hpins, hspan, -, -, -, hpending, -⟩ :=
      State.reformCompletions_frame (arrange order s.reformEnds) s
    exact ⟨hclock, hpins, hspan, hpending⟩
  | _ => exact ⟨rfl, rfl, rfl, rfl⟩

theorem State.Acts.pending {s t : State} (h : s.Acts t) : t.pending = s.pending := h.frame.2.2.2

/-- Work on the blocks leaves the clock, the pins and the Span Interface. -/
theorem State.Works.frame {s t : State} (h : s.Works t) :
    t.clock = s.clock ∧ t.pins = s.pins ∧ t.span = s.span ∧ t.pending = s.pending := by
  refine h.keeps (P := fun u => u.clock = s.clock ∧ u.pins = s.pins ∧ u.span = s.span ∧ u.pending = s.pending)
    (fun u v hact hu => ?_) ⟨rfl, rfl, rfl, rfl⟩
  obtain ⟨hclock, hpins, hspan, hpending⟩ := hact.frame
  obtain ⟨hclock', hpins', hspan', hpending'⟩ := hu
  exact ⟨hclock.trans hclock', hpins.trans hpins', hspan.trans hspan', hpending.trans hpending'⟩

theorem State.Works.span {s t : State} (h : s.Works t) : t.span = s.span := h.frame.2.2.1

end Sys2Proof.Machine
end

section
/-! PROOFS. Every operation of the model as a sequence of the changes that `State.Acts` and `State.Moves` list. -/

namespace Sys2Proof.Machine

/-! ### Slots and pending entries -/

theorem State.works_retest (s : State) : s.Works s.retest := (State.Acts.engine s.engine.retest).works

theorem State.works_waitHead (s : State) (kind : CommandKind) : s.Works (s.waitHead kind) := (State.Acts.engine _).works

/-- Writing a state other than COMMITTING to a slot makes no slot COMMITTING. -/
theorem committing_of_set {v : Vector Slot 4} {n m : Fin 4} {x : Slot} (hx : x.state ≠ .committing)
    (h : (v.set n x)[m].state = .committing) : v[m].state = .committing ∧ m ≠ n := by
  by_cases hm : m = n
  · subst hm
    simp [hx] at h
  · have hval : n.val ≠ m.val := fun heq => hm (Fin.ext heq.symm)
    exact ⟨by simpa [Vector.getElem_set, hval] using h, hm⟩

theorem State.works_emptySlot (s : State) (n : Fin 4) : s.Works (s.emptySlot n) :=
  (State.Acts.slots _ fun _ h => (committing_of_set (by simp) h).1).works

theorem State.works_holdSlot (s : State) (n : Fin 4) (k : Key) (v : Version) : s.Works (s.holdSlot n k v) :=
  (State.Acts.slots _ fun _ h => (committing_of_set (by simp) h).1).works

theorem State.works_loseSlots (s : State) (p : Key → Bool) : s.Works (s.loseSlots p) := by
  refine (State.Acts.slots _ fun n h => ?_).works
  simp only [Fin.getElem_fin, Vector.getElem_mapIdx] at h
  split at h
  · exact nomatch h
  · exact h

/-- The slots after an entry ended that writes `x` to the slot it names. -/
theorem committing_of_entrySlot {v : Vector Slot 4} {slot : Option (Fin 4)} {x : Fin 4 → Slot}
    (hx : ∀ n, (x n).state ≠ .committing) (m : Fin 4)
    (h : (match slot with
      | some n => v.set n (x n)
      | none => v)[m].state = .committing) : v[m].state = .committing ∧ slot ≠ some m := by
  cases slot with
  | none => exact ⟨h, nofun⟩
  | some n =>
    obtain ⟨hm, hne⟩ := committing_of_set (hx n) h
    exact ⟨hm, fun heq => hne (Option.some.inj heq).symm⟩

theorem State.works_failEntry (s : State) (i : Fin 8) (o : CmdOutcome) (v : Version) :
    s.Works (s.failEntry i o v) := by
  cases he : s.tracker.entries[i] with
  | none => rw [State.failEntry_of_none he]; exact .refl s
  | some e =>
    have hcopies : s.Works (s.endFetch e) := by
      rw [State.endFetch]
      split
      · exact (State.Acts.copies _ (.endFilling _)).works
      · exact .refl s
    have hentry : (s.endFetch e).tracker.entries[i] = some e := by
      rw [State.endFetch]
      split <;> exact he
    refine hcopies.trans ?_
    have hend := State.Acts.endEntry (s := s.endFetch e) i e
      { hostTag := e.hostTag, outcome := o, key := e.key, version := v, present := false, value := none } _ hentry
      (committing_of_entrySlot (x := fun n => { (s.endFetch e).slots[n] with state := .empty })
        (slot := e.slot) fun _ => nofun)
    convert hend.works using 1
    simp only [State.failEntry, he, State.emptyEntrySlot]
    cases e.slot <;> rfl

theorem State.works_failAll (s : State) (is : List (Fin 8)) (o : CmdOutcome) : s.Works (s.failAll is o) :=
  State.works_foldl (fun s i => s.works_failEntry i o 0) is s

theorem State.works_answerFetch (s : State) (i : Fin 8) (r : TableRecord) : s.Works (s.answerFetch i r) := by
  cases he : s.tracker.entries[i] with
  | none => simp only [State.answerFetch, he]; exact .refl s
  | some e =>
    rw [State.answerFetch_of_some he]
    exact (State.Acts.endEntry i e _ _ he (committing_of_entrySlot
      (x := fun _ => { state := .held, key := e.key, version := r.version }) fun _ => nofun)).works

theorem State.works_answerUpdate (s : State) (i : Fin 8) (r : TableRecord) : s.Works (s.answerUpdate i r) := by
  cases he : s.tracker.entries[i] with
  | none => simp only [State.answerUpdate, he]; exact .refl s
  | some e =>
    have hend := State.Acts.endEntry (s := s) i e (updateCompletion e r) _ he
      (committing_of_entrySlot (x := fun n => { s.slots[n] with state := .empty }) (slot := e.slot) fun _ => nofun)
    convert hend.works using 1
    simp only [State.answerUpdate, he, State.emptyEntrySlot]
    cases e.slot <;> rfl

/-- The LOCAL entry with a tag, if it is still in use, ends (R25, R33). -/
theorem State.works_failOwn (s : State) (tag : Tag) (o : CmdOutcome) (v : Version) : s.Works (s.failOwn tag o v) := by
  rw [State.failOwn]
  split
  · exact s.works_failEntry _ _ _
  · exact .refl s

/-! ### The commands at the head -/

section

variable {s : State} {c : CommandRecord}

theorem State.commands_ne_nil (h : s.head = some c) : s.port.commands ≠ [] := by
  rintro hnil
  simp [State.head, hnil] at h

theorem State.works_finishHead (h : s.head = some c) (x : Completion) : s.Works (s.finishHead x) :=
  (State.Acts.finish x (State.commands_ne_nil h)).works

theorem State.works_finishPlain (h : s.head = some c) (kind : CommandKind) (x : CommandRecord) (o : CmdOutcome)
    (v : Version) : s.Works (s.finishPlain kind x o v) :=
  State.works_finishHead h _

/-- The head completes at once after a change that leaves the Host Port. -/
theorem State.Works.finish {u : State} (hu : s.Works u) (h : s.head = some c) (hport : u.port = s.port)
    (x : Completion) : s.Works (u.finishHead x) :=
  hu.trans (State.Acts.finish x (hport ▸ State.commands_ne_nil h)).works

/-- Steps 3 to 7 of R139: the head completes, waits or is served. -/
theorem State.works_testHead (h : s.head = some c) (kind : CommandKind) {serve : State → State}
    (hserve : s.formation.state = .member → s.headBlocked kind c = false → s.Works (serve s)) :
    s.Works (s.testHead kind c serve) := by
  simp only [State.testHead]
  split
  · exact State.works_finishPlain h ..
  · exact s.works_waitHead kind
  · exact s.works_waitHead kind
  next hmember =>
    split
    · exact s.works_waitHead kind
    next hfree =>
      split
      · split
        · exact (s.works_emptySlot _).finish h rfl _
        · exact State.works_finishPlain h ..
      · exact hserve hmember (by simpa using hfree)

theorem State.works_atHead (s : State) (kind : CommandKind) {serve : CommandRecord → State → State}
    (hserve : ∀ c, s.head = some c → s.headBlocked kind c = false → s.Works (serve c s)) :
    s.Works (s.atHead kind serve) := by
  simp only [State.atHead]
  split
  next c hhead =>
    split
    · split
      · exact State.works_finishPlain hhead ..
      · exact State.works_testHead hhead kind fun _ hfree => hserve c hhead hfree
    · exact .refl s
  · exact .refl s

/-! ### Dispatch -/

/-- A head that is not blocked has no pending entry for its key (R144). -/
theorem State.keyPending_of_not_blocked {kind : CommandKind} (h : s.headBlocked kind c = false) {k : Key}
    (hk : k ∈ s.headKeys kind c) : s.tracker.keyPending k = false := by
  simp only [State.headBlocked, Bool.or_eq_false_iff, List.any_eq_false] at h
  simpa using h.1 k hk

theorem State.slotBusy_of_not_blocked {kind : CommandKind} (h : s.headBlocked kind c = false) {n : Fin 4}
    (hkind : kind.readsSlot = true) (hn : c.slotIndex = some n) : s.tracker.slotBusy n = false := by
  simp only [State.headBlocked, Bool.or_eq_false_iff, hkind, hn, Option.any_some, Bool.true_and] at h
  exact h.2

theorem RequestTracker.free_of_freeIndex {t : RequestTracker} {i : Fin 8} (h : t.freeIndex = some i) :
    t.entries[i] = none := by
  simpa using List.find?_some h

/-- A fetch is dispatched or waits (R44 to R48, R77). -/
theorem State.works_serveFetch (h : s.head = some c) (command : CommandKind) (slot : Option (Fin 4)) (noCopy : Bool)
    (hkey : s.tracker.keyPending c.key = false) (hslot : ∀ n, slot = some n → s.tracker.slotBusy n = false) :
    s.Works (s.serveFetch c command slot noCopy) := by
  simp only [State.serveFetch]
  split
  next i hi =>
    have hcopies : s.Works { s with copies := s.copies.atFetch c.key noCopy } := by
      simp only [CopyTable.atFetch]
      split
      · exact (State.Acts.copies _ (.touch _)).works
      next hnone =>
        split
        · exact .refl s
        · exact (State.Acts.copies _ (.claim _ hnone)).works
    exact hcopies.trans (State.Acts.dispatch (s := { s with copies := s.copies.atFetch c.key noCopy }) i
      (s.newEntry .fetch c command c.key slot none) s.slots (State.commands_ne_nil h)
      (RequestTracker.free_of_freeIndex hi) hkey hslot fun _ => .inl).works
  · exact s.works_waitHead command

/-- The slots when a COMMIT of the given slot, if any, is dispatched (R68). -/
def State.committingSlots (s : State) : Option (Fin 4) → Vector Slot 4
  | some n => s.slots.set n { s.slots[n] with state := .committing }
  | none => s.slots

/-- The head gets its pending entry, its slot COMMITTING if it names one (R68, R77). -/
theorem State.works_dispatch (h : s.head = some c) (e : PendingEntry) {i : Fin 8}
    (hi : s.tracker.freeIndex = some i) (hkey : s.tracker.keyPending e.key = false)
    (hslot : ∀ n, e.slot = some n → s.tracker.slotBusy n = false) :
    s.Works ({ s with
      tracker := s.tracker.allocate i e, slots := s.committingSlots e.slot } : State).leaveHead := by
  refine (State.Acts.dispatch i e _ (State.commands_ne_nil h) (RequestTracker.free_of_freeIndex hi) hkey hslot
    fun m hm => ?_).works
  cases hs : e.slot with
  | none => exact .inl (by simpa [hs, State.committingSlots] using hm)
  | some n =>
    by_cases hmn : m = n
    · exact .inr (by rw [hmn])
    · have hval : n.val ≠ m.val := fun heq => hmn (Fin.ext heq.symm)
      exact .inl (by simpa [hs, State.committingSlots, Vector.getElem_set, hval] using hm)

/-- The request of a LOCAL entry at index `i` (R20, R149). -/
def State.localRequest (s : State) (i : Fin 8) (k : Key) (u : Update) : InboundEntry :=
  { source := .own, request := .update u, key := k, requester := s.pins.station, tag := s.tracker.tagAt i }

/-- An update is dispatched, its slot COMMITTING if it names one, or waits (R20, R68, R148, R149). -/
theorem State.works_serveUpdate (h : s.head = some c) (command : CommandKind) (k : Key) (slot : Option (Fin 4))
    (u : Update) (hkey : s.tracker.keyPending k = false)
    (hslot : ∀ n, slot = some n → s.tracker.slotBusy n = false) :
    s.Works (s.serveUpdate c command k slot u) := by
  simp only [State.serveUpdate]
  split
  next i hi =>
    split
    · split
      next hroom =>
        have hjoin := (State.Acts.home (s := s) _ (.joinInbound (s.localRequest i k u) hroom)).works
        refine hjoin.trans ?_
        convert State.works_dispatch
          (s := { s with home := { s.home with inbound := s.home.inbound ++ [s.localRequest i k u] } }) h
          (s.newEntry .own c command k slot none) hi hkey hslot using 1
        cases slot <;> rfl
      · exact s.works_waitHead command
    · convert State.works_dispatch h (s.newEntry .update c command k slot (some u)) hi hkey hslot using 1
      cases slot <;> rfl
  · exact s.works_waitHead command

/-! ### Each command -/

theorem State.works_copies {t : CopyTable} (h : s.copies.Edits t) : s.Works { s with copies := t } :=
  (State.Acts.copies t h).works

theorem State.works_serveRead (h : s.head = some c) (hfree : s.headBlocked .read c = false) :
    s.Works (s.serveRead c) := by
  simp only [State.serveRead]
  split
  · split
    · exact s.works_waitHead .read
    · exact State.works_finishHead h _
  · split
    · exact (State.works_copies (.touch c.key)).finish h rfl _
    · exact State.works_serveFetch h .read none _
        (State.keyPending_of_not_blocked hfree (by simp [State.headKeys])) nofun

theorem State.works_serveReserve (h : s.head = some c) (hfree : s.headBlocked .reserve c = false) :
    s.Works (s.serveReserve c) := by
  simp only [State.serveReserve]
  split
  next n hn =>
    split
    · split
      · exact s.works_waitHead .reserve
      · exact (s.works_holdSlot _ _ _).finish h rfl _
    · split
      · exact ((State.works_copies (.touch c.key)).trans (State.works_holdSlot _ _ _ _)).finish h rfl _
      · refine State.works_serveFetch h .reserve _ _
          (State.keyPending_of_not_blocked hfree (by simp [State.headKeys])) fun m hm => ?_
        obtain rfl : n = m := by simpa using hm
        exact State.slotBusy_of_not_blocked hfree rfl hn
  · exact .refl s

theorem State.works_serveCommit (h : s.head = some c) (hfree : s.headBlocked .commit c = false) :
    s.Works (s.serveCommit c) := by
  simp only [State.serveCommit]
  split
  next n hn =>
    split
    · exact State.works_finishPlain h ..
    · exact (s.works_emptySlot n).finish h rfl _
    · refine State.works_serveUpdate h _ _ _ _
        (State.keyPending_of_not_blocked hfree (by simp [State.headKeys, State.slotKey, hn])) fun m hm => ?_
      obtain rfl : n = m := by simpa using hm
      exact State.slotBusy_of_not_blocked hfree rfl hn
    · exact s.works_waitHead .commit
  · exact .refl s

theorem State.works_serveRelease (h : s.head = some c) : s.Works (s.serveRelease c) := by
  simp only [State.serveRelease]
  split
  · split
    · exact s.works_waitHead .release
    · exact (s.works_emptySlot _).finish h rfl _
  · exact .refl s

theorem State.works_serveFence (h : s.head = some c) : s.Works (s.serveFence c) := by
  simp only [State.serveFence]
  split
  · exact State.works_finishPlain h ..
  · exact s.works_waitHead .fence

theorem State.works_serveWatch (h : s.head = some c) : s.Works (s.serveWatch c) := by
  simp only [State.serveWatch]
  split
  next w hw =>
    exact (State.Acts.watch w (.arm _ _ _ w hw)).works.finish h rfl _
  · exact State.works_finishPlain h ..

theorem State.works_serveUnwatch (h : s.head = some c) : s.Works (s.serveUnwatch c) :=
  (State.Acts.watch _ (.disarm c.key)).works.finish h rfl _

theorem State.works_serveDrop (h : s.head = some c) : s.Works (s.serveDrop c) :=
  (State.works_copies (.drop c.key)).finish h rfl _

/-- WRITE, SWAP, ADD and DELETE act on the key of their record. -/
theorem State.works_serveOwnKey (h : s.head = some c) (command : CommandKind) (u : Update)
    (hk : c.key ∈ s.headKeys command c) (hfree : s.headBlocked command c = false) :
    s.Works (s.serveUpdate c command c.key none u) :=
  State.works_serveUpdate h command c.key none u (State.keyPending_of_not_blocked hfree hk) nofun

end

/-- What a command of each kind does at step 8; a REFORM is not served there. -/
def CommandKind.serve : CommandKind → CommandRecord → State → State
  | .read => State.serveRead
  | .write => State.serveWrite
  | .swap => State.serveSwap
  | .add => State.serveAdd
  | .delete => State.serveDelete
  | .reserve => State.serveReserve
  | .commit => State.serveCommit
  | .release => State.serveRelease
  | .fence => State.serveFence
  | .watch => State.serveWatch
  | .unwatch => State.serveUnwatch
  | .drop => State.serveDrop
  | .reform => fun _ s => s

theorem State.works_serve {s : State} {c : CommandRecord} (kind : CommandKind) (h : s.head = some c)
    (hfree : s.headBlocked kind c = false) : s.Works (kind.serve c s) := by
  cases kind with
  | read => exact State.works_serveRead h hfree
  | reserve => exact State.works_serveReserve h hfree
  | commit => exact State.works_serveCommit h hfree
  | release => exact State.works_serveRelease h
  | fence => exact State.works_serveFence h
  | watch => exact State.works_serveWatch h
  | unwatch => exact State.works_serveUnwatch h
  | drop => exact State.works_serveDrop h
  | reform => exact .refl s
  | write | swap | add | delete => exact State.works_serveOwnKey h _ _ (by simp [State.headKeys]) hfree

theorem State.works_atHead_serve (s : State) (kind : CommandKind) : s.Works (s.atHead kind kind.serve) :=
  s.works_atHead kind fun _ hhead hfree => State.works_serve kind hhead hfree

theorem State.works_reformAtHead (s : State) : s.Works s.reformAtHead := by
  simp only [State.reformAtHead]
  split
  next c hhead =>
    split
    · split
      · exact State.works_finishPlain hhead ..
      · exact (State.Acts.handOver c (State.commands_ne_nil hhead)).works
    · exact .refl s
  · exact .refl s

theorem State.works_badAtHead (s : State) : s.Works s.badAtHead := by
  simp only [State.badAtHead]
  split
  next c hhead =>
    split
    · exact State.works_finishHead hhead _
    · exact .refl s
  · exact .refl s

theorem State.works_engineDue (s : State) : s.Works s.engineDue := by
  simp only [State.engineDue]
  split
  · simp only [State.engineStep]
    split
    · split
      exacts [s.works_atHead_serve .read, s.works_atHead_serve .write, s.works_atHead_serve .swap,
        s.works_atHead_serve .add, s.works_atHead_serve .delete, s.works_atHead_serve .reserve,
        s.works_atHead_serve .commit, s.works_atHead_serve .release, s.works_atHead_serve .fence,
        s.works_atHead_serve .watch, s.works_atHead_serve .unwatch, s.works_atHead_serve .drop,
        s.works_reformAtHead, s.works_badAtHead]
    · exact .refl s
  · exact .refl s
  · exact .refl s

end Sys2Proof.Machine
end

section
/-! PROOFS. The Home Engine's handling, the limits, what an event sets off, and every command of the table as a sequence of
the changes that `State.Acts` and `State.Moves` list. -/

namespace Sys2Proof.Machine

/-! ### The Home Engine -/

theorem State.works_popInbound (s : State) : s.Works s.popInbound :=
  ((State.Acts.home _ .popInbound).works).trans (State.works_retest _)

theorem refuseFrame_kind (self : Station) (epoch : Epoch) (target : Station) (tag : Tag) (k : Key)
    (reason : CmdOutcome) (v : Version) : (refuseFrame self epoch target tag k reason v).kind = some .refuse := rfl

theorem dataFrame_kind (self : Station) (epoch : Epoch) (q : InboundEntry) (r : TableRecord) :
    (dataFrame self epoch q r).kind = some .data := rfl

theorem publishFrame_kind (self : Station) (epoch : Epoch) (q : InboundEntry) (op : Op) (r : TableRecord) :
    (publishFrame self epoch q op r).kind = some .publish := rfl

/-- A frame other than a PUBLISH joins the outbound queue where there is room (R16). -/
theorem State.works_sendFrame {s : State} (room : s.home.outbound.length < 8) {f : Frame}
    (kind : f.kind ≠ some .publish) (b : Bool) : s.Works (s.sendFrame f b) :=
  (State.Acts.home _ (.send { frame := f, attempts := 0, localOrigin := b } room kind)).works

theorem State.works_refuse {s : State} (room : s.home.outbound.length < 8) (q : InboundEntry) (reason : CmdOutcome)
    (v : Version) : s.Works (s.refuse q reason v) :=
  State.works_sendFrame room (by rw [refuseFrame_kind]; decide) false

theorem State.works_answerInboundFetch {s : State} (room : s.home.outbound.length < 8) (q : InboundEntry) :
    s.Works (s.answerInboundFetch q) := by
  rw [State.answerInboundFetch]
  split
  · exact State.works_sendFrame room (by rw [dataFrame_kind]; decide) false
  · exact State.works_refuse room ..

theorem State.works_answerInboundUpdate {s : State} {q : InboundEntry} (room : s.home.outbound.length < 8)
    (free : s.publishing q.key = false) (u : Update) : s.Works (s.answerInboundUpdate q u) := by
  rw [State.answerInboundUpdate]
  split
  · split
    next r _ =>
      exact (State.Acts.home _ (.publish
        { frame := publishFrame s.pins.station s.formation.epoch q u.op r
          attempts := 0
          localOrigin := q.source == .own } room (publishFrame_kind ..) free)).works
    next =>
      rw [State.refuseUpdate]
      split
      · exact State.works_refuse room ..
      · exact s.works_failOwn _ _ _
  · exact State.works_refuse room ..

/-- A head that is handled finds its key free and room for its answer (R21). -/
theorem State.works_handleFetch (s : State) : s.Works s.handleFetch := by
  rw [State.handleFetch]
  split
  · split
    · split
      next hfree =>
        obtain ⟨-, -, hroom⟩ := (s.headFree_iff _).1 hfree
        exact s.works_popInbound.trans (State.works_answerInboundFetch (s := s.popInbound) hroom _)
      next => exact .refl s
    · exact .refl s
  · exact .refl s

theorem State.works_handleUpdate (s : State) : s.Works s.handleUpdate := by
  rw [State.handleUpdate]
  split
  · split
    · split
      next hfree =>
        obtain ⟨-, hpub, hroom⟩ := (s.headFree_iff _).1 hfree
        exact s.works_popInbound.trans (State.works_answerInboundUpdate (s := s.popInbound) hroom hpub _)
      next => exact .refl s
    · exact .refl s
  · exact .refl s

theorem State.works_handleInbound (s : State) : s.Works s.handleInbound := by
  rw [State.handleInbound]
  split
  · split
    · exact s.works_handleFetch
    · exact s.works_handleUpdate
  · exact .refl s

/-! ### The limits -/

theorem State.works_discardHead (s : State) : s.Works s.discardHead := by
  rw [State.discardHead]
  split
  next o rest hhead =>
    split
    next hspent =>
      obtain ⟨-, hkind⟩ := Bool.and_eq_true_iff.1 hspent
      simpa [State.popOutbound, hhead] using
        (State.Acts.home (s := s) _ (.leave o rest hhead (by simpa using hkind))).works
    next => exact .refl s
  · exact .refl s

/-- A dropped PUBLISH takes its mark with it, and its origin is told (R33). -/
theorem State.works_dropPublishOf {s : State} {o : OutboundEntry} {rest : List OutboundEntry}
    (hhead : s.home.outbound = o :: rest) (hkind : o.frame.kind = some .publish) : s.Works (s.dropPublishOf o) := by
  rw [State.dropPublishOf]
  split
  · have hdrop := (State.Acts.home (s := s) _ (.unpublish o rest hhead hkind none nofun)).works
    refine .trans ?_ (State.works_failOwn _ _ _ _)
    simpa [State.popOutbound, hhead] using hdrop.trans (State.works_retest _)
  · have hdrop := (State.Acts.home (s := s) _ (.unpublish o rest hhead hkind
      (some { frame := refuseFrame s.pins.station s.formation.epoch o.frame.target o.frame.tag o.frame.key .spanFault
                (s.committed o.frame.key).version
              attempts := 0
              localOrigin := false }) (by simp [refuseFrame_kind]))).works
    simpa [State.popOutbound, State.sendFrame, hhead, State.retest] using hdrop.trans (State.works_retest _)

theorem State.works_dropPublish (s : State) : s.Works s.dropPublish := by
  rw [State.dropPublish]
  split
  next o rest hhead =>
    split
    next hspent =>
      obtain ⟨-, hkind⟩ := Bool.and_eq_true_iff.1 hspent
      exact State.works_dropPublishOf hhead (by simpa using hkind)
    next => exact .refl s
  · exact .refl s

theorem State.works_silence (s : State) (st : Station) : s.Works (s.silence st) := by
  rw [State.silence]
  split
  next h => exact (State.Acts.formation _ (.silenced st s.clock h.2) (.inr rfl)).works
  next => exact .refl s

theorem State.works_evidence (s : State) (st : Station) : s.Works (s.evidence st) := by
  rw [State.evidence]
  split
  next h => exact (State.Acts.formation _ (.alive st s.clock h.2) (.inr rfl)).works
  next => exact .refl s

theorem State.works_retryLimitAt (s : State) (i : Fin 8) : s.Works (s.retryLimitAt i) := by
  rw [State.retryLimitAt]
  split
  · exact s.works_failEntry _ _ _
  · exact .refl s

theorem State.works_attemptLimitAt (s : State) (i : Fin 8) : s.Works (s.attemptLimitAt i) := by
  rw [State.attemptLimitAt]
  split
  · split
    · split
      · exact s.works_failEntry _ _ _
      · exact (s.works_failEntry _ _ _).trans (State.works_silence _ _)
    · exact .refl s
  · exact .refl s

theorem State.works_deadlineAt (s : State) (i : Fin 8) : s.Works (s.deadlineAt i) := by
  rw [State.deadlineAt]
  split
  · split
    · exact (s.works_failEntry _ _ _).trans (State.works_silence _ _)
    · exact .refl s
  · exact .refl s

/-- Firing several watches is firing one after another. -/
theorem State.works_fireAll (s : State) (p : WatchEntry → Bool) (f : Firing) :
    s.Works { s with watch := s.watch.fireAll p f } := by
  suffices h : ∀ (is : List (Fin 32)) (w : WatchUnit),
      ({ s with watch := w } : State).Works { s with watch := is.foldl (fun w i => w.fire i f) w } from h _ s.watch
  intro is
  induction is with
  | nil => exact fun w => .refl _
  | cons i is ih =>
    exact fun w => (State.Acts.watch (s := { s with watch := w }) _ (.fire i f)).works.trans (ih (w.fire i f))

/-- A member leaves UP or becomes LOST, and every block lets go of its keys (R127). -/
theorem State.works_memberDown {s : State} {m : Member} {health : Health} (order : List Nat)
    (h : s.formation.Edits s.pins.station (s.formation.modify m.station fun x => { x with health := health })) :
    s.Works (s.memberDown m health order) := by
  refine (State.Acts.formation _ h (.inr rfl)).works.trans ?_
  refine (State.works_loseSlots _ (s.formation.homedAtRank m.rank)).trans ?_
  refine (State.works_failAll _ (arrange order
    (s.tracker.indices fun e => e.kind != .own && e.home == m.station)) .homeDown).trans ?_
  refine (State.works_copies (.releaseWhere (s.formation.homedAtRank m.rank))).trans ?_
  exact (State.works_fireAll _ _ _).trans (State.works_retest _)

theorem State.works_memberSilentAt (s : State) (st : Station) (order : List Nat) :
    s.Works (s.memberSilentAt st order) := by
  rw [State.memberSilentAt]
  split
  next m hm =>
    split
    next h => exact State.works_memberDown order (.silent m (FormationController.find_spec hm).1 h.2)
    next => exact .refl s
  · exact .refl s

/-- Acting on the limits of the pending entries, by index (R80, R81). -/
def State.obeyEntryLimits (s : State) : State :=
  allEntries.foldl (fun s i => (s.retryLimitAt i).attemptLimitAt i) s

/-- Acting on the members with three silences (R126). -/
def State.obeyMemberLimits (s : State) : State :=
  s.formation.members.foldl (fun s m => s.memberSilentAt m.station []) s

theorem State.obeyLimits_eq (s : State) :
    s.obeyLimits = if s.limitDue then s.discardHead.dropPublish.obeyEntryLimits.obeyMemberLimits else s := by
  simp only [State.obeyLimits, State.obeyEntryLimits, State.obeyMemberLimits]

theorem State.works_obeyEntryLimits (s : State) : s.Works s.obeyEntryLimits :=
  State.works_foldl (fun s i => (s.works_retryLimitAt i).trans (State.works_attemptLimitAt _ i)) _ s

theorem State.works_obeyMemberLimits (s : State) : s.Works s.obeyMemberLimits :=
  State.works_foldl (fun s (m : Member) => s.works_memberSilentAt m.station []) _ s

theorem State.works_obeyLimits (s : State) : s.Works s.obeyLimits := by
  rw [State.obeyLimits_eq]
  split
  · exact ((s.works_discardHead.trans (State.works_dropPublish _)).trans (State.works_obeyEntryLimits _)).trans
      (State.works_obeyMemberLimits _)
  · exact .refl s

theorem State.works_deliverNotice (s : State) (ahead : Nat) : s.Works (s.deliverNotice ahead) :=
  (State.Acts.deliver ahead).works

/-! ### The form of an event -/

theorem State.reaches_span (s : State) (now : Time) {pins : Pins} (span : SpanInterface)
    (h : pins.station = s.pins.station) : s.Reaches { s with clock := now, pins := pins, span := span } :=
  (State.Moves.span now pins span h).reaches

theorem State.reaches_refreshReq (s : State) : s.Reaches s.refreshReq := s.reaches_span s.clock _ rfl

theorem State.reaches_advance (s : State) (t : Time) : s.Reaches (s.advance t) := s.reaches_span _ s.span rfl

theorem State.reaches_followOn (s : State) {f : State → State} (h : ∀ u : State, u.Works (f u)) :
    s.Reaches (s.followOn f) := by
  rw [State.followOn]
  split
  · exact (s.works_obeyLimits.trans (h _)).reaches.trans (State.reaches_refreshReq _)
  · exact .refl s

theorem State.reaches_limitRow (s : State) {f : State → State} (h : ∀ u : State, u.Works (f u)) :
    s.Reaches (s.limitRow f) := by
  rw [State.limitRow]
  split
  · exact (h s).reaches.trans (State.reaches_refreshReq _)
  · exact .refl s

theorem State.reaches_settle (s : State) : s.Reaches s.settle :=
  State.settleFor_induct (P := s.Reaches) (fun u h => h.trans <|
    ((u.reaches_followOn State.works_engineDue).trans (State.reaches_followOn _ State.works_handleInbound)).trans
      (State.reaches_followOn _ fun v => v.works_deliverNotice 0)) _ s (.refl s)

theorem State.works_startEvent (s : State) : s.Works s.startEvent :=
  (State.Acts.port { s.port with fresh := 0 } s.sampled rfl rfl le_rfl).works

theorem State.reaches_onEvent (s : State) {f : State → State} (h : ∀ u : State, u.Reaches (f u)) :
    s.Reaches (s.onEvent f) := by
  rw [State.onEvent]
  split
  · exact ((s.reaches_settle.trans (State.works_startEvent _).reaches).trans (h _)).trans (State.reaches_refreshReq _)
  · exact .refl s

/-! ### SPI transactions -/

/-- A change of the Host Port by which no command or record joins. -/
theorem State.works_port (s : State) {p : HostPort} (commands : p.commands = s.port.commands)
    (outstanding : p.outstanding = s.port.outstanding)
    (completions : p.completions.length ≤ s.port.completions.length) : s.Works { s with port := p } :=
  (State.Acts.port p s.seen commands outstanding completions).works

theorem State.works_shiftOut (s : State) (fell : Time) (record : List Byte) (clocked : Nat) :
    s.Works (s.shiftOut fell record clocked) :=
  s.works_port rfl rfl le_rfl

theorem State.works_put (s : State) (long : Bool) (length : Nat) (bs : List Byte) :
    s.Works (s.put long length bs) := by
  rw [State.put]
  split
  · exact s.works_port rfl rfl le_rfl
  · split
    next hroom => exact (State.Acts.accept _ hroom).works
    next => exact s.works_port rfl rfl le_rfl

theorem State.works_popRecord (s : State) (fell code : Time) (clocked : Nat) :
    s.Works (s.popRecord fell code clocked) := by
  rw [State.popRecord]
  split
  next r rest hhead =>
    split
    · split
      · exact s.works_shiftOut _ _ _
      · exact (s.works_shiftOut _ _ _).trans (State.works_port _ rfl rfl (by simp [State.shiftOut, hhead]))
    · exact s.works_shiftOut _ _ _
  · exact s.works_shiftOut _ _ _

theorem State.works_readStatus (s : State) (fell code : Time) (clocked : Nat) :
    s.Works (s.readStatus fell code clocked) := by
  rw [State.readStatus]
  split
  · exact s.works_shiftOut _ _ _
  · exact (s.works_shiftOut _ _ _).trans (State.works_port _ rfl rfl le_rfl)

theorem State.works_serveCode (s : State) (spi : Reading) (code : Option Byte) (received : List Byte) :
    s.Works (s.serveCode spi code received) := by
  rw [State.serveCode.eq_def]
  split
  · exact s.works_shiftOut _ _ _
  · split_ifs
    · exact (s.works_shiftOut _ _ _).trans (State.works_put _ _ _ _)
    · exact (s.works_shiftOut _ _ _).trans (State.works_put _ _ _ _)
    · exact s.works_popRecord _ _ _
    · exact s.works_readStatus _ _ _
    · exact s.works_shiftOut _ _ _

theorem State.reaches_spiEnds (s : State) (spi : Reading) (code : Option Byte) (received : List Byte) :
    s.Reaches (s.spiEnds spi code received) := by
  refine s.reaches_onEvent fun u => (u.reaches_advance spi.rose).trans (State.Works.reaches ?_)
  refine State.Works.trans ?_ (State.Acts.port _ _ rfl rfl le_rfl).works
  split
  · exact State.works_port _ rfl rfl le_rfl
  · exact State.works_serveCode _ _ _ _

/-! ### The Span Interface -/

/-- A LISTEN station that becomes synced queues its ROLL (R119). -/
theorem State.reaches_becomeSynced (s : State) : s.Reaches s.becomeSynced := by
  refine (s.reaches_span s.clock { s.span with synced := true } rfl).trans (State.Works.reaches ?_)
  rw [State.becomeSynced]
  split
  next h =>
    exact (State.Acts.formation (s := { s with span := { s.span with synced := true } }) _ (.queueRoll _ h)
      (.inr rfl)).works
  next => exact .refl _

theorem State.reaches_idleExpires (s : State) : s.Reaches s.idleExpires := by
  rw [State.idleExpires]
  split
  next since _ =>
    have hspan := s.reaches_span (max s.clock (since + Timing.idleLimit))
      { s.span with idleTimer := .reached, lastWinner := some 15 } rfl
    dsimp only
    split
    · exact hspan
    · exact hspan.trans (State.reaches_becomeSynced _)
  · exact .refl s
  · exact .refl s

theorem State.reaches_arbitrate (s : State) (req : StationSet) : s.Reaches (s.arbitrate req) := by
  rw [State.arbitrate]
  split
  · split
    · exact s.reaches_span s.clock _ rfl
    · exact .refl s
  · exact .refl s

theorem State.reaches_driveSpd (s : State) (tenure : Tenure) : s.Reaches (s.driveSpd tenure) :=
  s.reaches_span s.clock _ rfl

theorem State.reaches_endEmptyTenure (s : State) : s.Reaches s.endEmptyTenure := by
  rw [State.endEmptyTenure]
  split
  · exact s.reaches_span _ _ rfl
  · exact .refl s

theorem State.reaches_beginFrame (s : State) (t : Time) (heard : Bool) : s.Reaches (s.beginFrame t heard) := by
  rw [State.beginFrame]
  split
  · exact .refl s
  · split
    · exact (s.reaches_advance _).trans (State.reaches_driveSpd _ _)
    · split
      · exact (s.reaches_advance _).trans (State.reaches_driveSpd _ _)
      · exact (s.reaches_endEmptyTenure.trans (State.reaches_advance _ _)).trans (State.reaches_driveSpd _ _)
    · exact (s.reaches_advance _).trans (State.reaches_driveSpd _ _)
    · exact .refl s
    · exact s.reaches_span _ _ rfl

theorem State.reaches_releaseSpd (s : State) (begun : Time) (n : Nat) : s.Reaches (s.releaseSpd begun n) :=
  s.reaches_span _ s.span rfl

/-- Judging a frame drives response lines, and holds a place where the inbound queue has one (R18, R104). -/
theorem State.reaches_judgeFrame (s : State) (winner : Option Station) (own : Option OwnFrame) (bs : List Byte) :
    s.Reaches (s.judgeFrame winner own bs) := by
  rw [State.judgeFrame.eq_def]
  split
  · exact s.reaches_span s.clock _ rfl
  · split
    · exact .refl s
    · rw [State.answerFrame]
      split
      · split
        any_goals exact .refl s
        any_goals exact s.reaches_span s.clock _ rfl
        all_goals
          split
          next hroom =>
            exact (State.Acts.home _ (.holdPlace hroom)).works.reaches.trans
              (State.reaches_span _ s.clock { s.span with ack := true } rfl)
          next => exact s.reaches_span s.clock _ rfl
      · exact .refl s

theorem State.reaches_hearFrame (s : State) (bs : List Byte) : s.Reaches (s.hearFrame bs) := by
  rw [State.hearFrame]
  split
  · split
    · exact ((s.reaches_releaseSpd _ _).trans (State.reaches_judgeFrame _ _ _ _)).trans
        (State.reaches_span _ _ _ rfl)
    · exact .refl s
  · exact (s.reaches_releaseSpd _ _).trans (State.reaches_span _ _ _ rfl)
  · exact .refl s
  · exact (s.reaches_releaseSpd _ _).trans (State.reaches_span _ _ _ rfl)
  · exact s.reaches_span _ _ rfl

/-! ### The close of a window -/

theorem State.works_outboundSent (s : State) (f : Frame) (o : SendOutcome) : s.Works (s.outboundSent f o) := by
  rw [State.outboundSent]
  split
  next e rest hhead =>
    split
    next hf =>
      subst hf
      split
      · split
        next hkind =>
          have hcommit := (State.Acts.home (s := s) _ (.commit e rest hhead hkind e.frame.record)).works
          simpa [State.commitPublish, State.popOutbound, hhead] using hcommit.trans (State.works_retest _)
        next hkind =>
          simpa [State.popOutbound, hhead] using (State.Acts.home (s := s) _ (.leave e rest hhead hkind)).works
      · exact (State.Acts.home _ (.count e rest hhead _)).works
    next => exact .refl s
  · exact .refl s

theorem State.works_requestSent (s : State) (i : Fin 8) (tag : Tag) (o : SendOutcome) :
    s.Works (s.requestSent i tag o) := by
  rw [State.requestSent]
  split
  next e he =>
    split
    · refine (State.Acts.sent i e _ he ?_ ?_ ?_).works <;> cases o <;> rfl
    · exact .refl s
  · exact .refl s

theorem State.works_formationSent (s : State) (kind : FrameKind) (o : SendOutcome) :
    s.Works (s.formationSent kind o) := by
  rw [State.formationSent.eq_def]
  split
  · split
    · exact (State.Acts.formation _ .rollSent (.inr rfl)).works
    · exact (State.Acts.formation _ .closeSent (.inr rfl)).works
    all_goals exact .refl s
  · exact .refl s

theorem State.works_ownSent (s : State) (own : OwnFrame) (o : SendOutcome) : s.Works (s.ownSent own o) := by
  rw [State.ownSent]
  split
  · exact s.works_formationSent _ _
  · exact s.works_outboundSent _ _
  · exact s.works_requestSent _ _ _

theorem State.works_targetEvidence (s : State) (own : OwnFrame) (l : Lines) : s.Works (s.targetEvidence own l) := by
  rw [State.targetEvidence]
  split
  any_goals exact .refl s
  all_goals
    split
    · exact s.works_evidence _
    · exact .refl s

theorem State.works_requeueReform (s : State) (own : OwnFrame) (o : SendOutcome) :
    s.Works (s.requeueReform own o) := by
  rw [State.requeueReform]
  split
  · exact (State.Acts.formation _ (.reform _) (.inr rfl)).works
  · exact .refl s

theorem State.works_settlePlace (s : State) (f : Frame) (o : SendOutcome) : s.Works (s.settlePlace f o) := by
  rw [State.settlePlace]
  split
  next hheld =>
    split
    · exact (State.Acts.home _ (.takePlace _ hheld)).works
    · exact (State.Acts.home _ .releasePlace).works.trans (State.works_retest _)
  next => exact .refl s

/-! ### Frames taken by a synced station -/

theorem State.works_fillByPublish (s : State) (f : Frame) : s.Works (s.fillByPublish f) := by
  rw [State.fillByPublish]
  split
  · split
    · exact s.works_answerFetch _ _
    · exact .refl s
  · exact .refl s

theorem State.works_completeOrigin (s : State) (f : Frame) : s.Works (s.completeOrigin f) := by
  rw [State.completeOrigin]
  split
  · exact s.works_answerUpdate _ _
  · exact .refl s

theorem State.works_putCopies (s : State) (f : Frame) :
    s.Works { s with copies := s.copies.takePublish f.key f.record } := by
  rw [CopyTable.takePublish]
  split
  · split
    · exact .refl s
    · exact State.works_copies (.put _ _)
  · exact .refl s

theorem State.works_firePublish (s : State) (f : Frame) :
    s.Works { s with watch := s.watch.firePublish f.key f.target f.record } := by
  rw [WatchUnit.firePublish]
  split
  · exact (State.Acts.watch _ (.fire _ _)).works
  · exact .refl s

theorem State.works_takePublish (s : State) (f : Frame) : s.Works (s.takePublish f) := by
  refine ((s.works_loseSlots (fun k => k == f.key)).trans (State.works_retest _)).trans ?_
  refine ((State.works_fillByPublish _ f).trans (State.works_completeOrigin _ f)).trans ?_
  exact (State.works_putCopies _ f).trans (State.works_firePublish _ f)

theorem State.works_takeData (s : State) (f : Frame) : s.Works (s.takeData f) := by
  rw [State.takeData]
  split
  · refine State.Works.trans ?_ (State.works_answerFetch _ _ _)
    rw [CopyTable.takeData_eq]
    dsimp only
    split
    · exact State.works_copies (.put _ _)
    · exact .refl s
  · exact .refl s

theorem State.works_takeRefuse (s : State) (f : Frame) : s.Works (s.takeRefuse f) := by
  rw [State.takeRefuse]
  split
  · exact s.works_failEntry _ _ _
  · exact .refl s

theorem State.works_tableFrame (s : State) (f : Frame) : s.Works (s.tableFrame f) := by
  refine (s.works_evidence f.sender).trans ?_
  rw [State.tableFrame.eq_def]
  generalize s.evidence f.sender = t
  simp only []
  split
  · exact t.works_takePublish f
  · split
    · exact t.works_takeData f
    · exact .refl t
  · split
    · exact t.works_takeRefuse f
    · exact .refl t
  all_goals exact .refl t

theorem State.works_startReclose {s : State} (h : s.formation.state = .member) (roller : Station) :
    s.Works (s.startReclose roller) := by
  rw [State.startReclose]
  split
  · exact .refl s
  · exact (State.Acts.formation _ (.startReclose _ h) (.inr rfl)).works

/-- A member that goes down leaves the station's own state and its Span Interface. -/
theorem State.memberDown_formation (s : State) (m : Member) (health : Health) (order : List Nat) :
    (s.memberDown m health order).formation =
        s.formation.modify m.station (fun x => { x with health := health }) ∧
      (s.memberDown m health order).span = s.span := by
  obtain ⟨-, -, hspan, hformation, -⟩ := State.failAll_frame
    (arrange order (s.tracker.indices fun e => e.kind != .own && e.home == m.station)) .homeDown
    (({ s with formation := s.formation.modify m.station (fun x => { x with health := health }) } :
      State).loseSlots (s.formation.homedAtRank m.rank))
  exact ⟨hformation, hspan⟩

theorem State.markRoller_state (s : State) (roller : Station) (order : List Nat) :
    (s.markRoller roller order).formation.state = s.formation.state := by
  rw [State.markRoller]
  split
  · split
    · rfl
    · rw [(s.memberDown_formation _ _ _).1]
      rfl
  · rfl

theorem State.works_markRoller (s : State) (roller : Station) (order : List Nat) :
    s.Works (s.markRoller roller order) := by
  rw [State.markRoller]
  split
  next m hm =>
    split
    · exact .refl s
    next h => exact State.works_memberDown order (.lost m.station fun hself => h (.inr hself))
  next => exact (State.Acts.formation _ (.lateRoll true) (.inr rfl)).works

theorem State.works_rollAtMember {s : State} (h : s.formation.state = .member) (f : Frame) (order : List Nat) :
    s.Works (s.rollAtMember f order) :=
  (s.works_markRoller f.sender order).trans
    (State.works_startReclose ((s.markRoller_state f.sender order).trans h) f.sender)

theorem State.works_abandonMembership (s : State) (order : List Nat) : s.Works (s.abandonMembership order) := by
  refine (s.works_failAll (arrange order (s.tracker.indices fun _ => true)) .notMember).trans ?_
  refine (State.Acts.home _ .abandon).works.trans ?_
  refine (State.works_copies .reset).trans (State.Acts.slots _ fun n h => ?_).works
  simp at h

/-- Leaving the epoch touches neither the Formation Controller nor the Span Interface. -/
theorem State.abandonMembership_frame (s : State) (order : List Nat) :
    (s.abandonMembership order).formation = s.formation ∧ (s.abandonMembership order).span = s.span := by
  obtain ⟨-, -, hspan, hformation, -⟩ :=
    State.failAll_frame (arrange order (s.tracker.indices fun _ => true)) .notMember s
  exact ⟨hformation, hspan⟩

theorem State.works_exclude {s : State} (h : s.span.synced = true) (epoch : Epoch) (order : List Nat) :
    s.Works (s.exclude epoch order) := by
  rw [State.exclude]
  split
  · refine (s.works_abandonMembership order).trans ?_
    exact (State.Acts.formation _ (.exclude epoch)
      (.inl ((congrArg SpanInterface.synced (s.abandonMembership_frame order).2).trans h))).works.trans
        (State.works_retest _)
  · exact (State.Acts.formation _ (.exclude epoch) (.inl h)).works.trans (State.works_retest _)

theorem State.works_closeAtMember {s : State} (hsynced : s.span.synced = true)
    (hmember : s.formation.state = .member) (f : Frame) (order : List Nat) : s.Works (s.closeAtMember f order) := by
  have hstop : s.Works s.stopReclose := (State.Acts.formation _ (.stopReclose none) (.inr rfl)).works
  rw [State.closeAtMember]
  split_ifs
  · exact hstop
  · exact State.works_exclude hsynced _ _
  · exact hstop
  · exact State.works_exclude hsynced _ _
  · exact State.works_startReclose hmember _

theorem State.works_takeReform {s : State} (h : s.span.synced = true) (sender : Station) (epoch : Epoch)
    (order : List Nat) : s.Works (s.takeReform sender epoch order) :=
  (State.Acts.takeReform sender epoch order h).works

theorem State.evidence_span (s : State) (st : Station) : (s.evidence st).span = s.span := by
  rw [State.evidence_frame]

theorem State.evidence_state (s : State) (st : Station) :
    (s.evidence st).formation.state = s.formation.state := by
  rw [State.evidence_frame]

theorem State.works_takeAtMember {s : State} (hsynced : s.span.synced = true)
    (hmember : s.formation.state = .member) (f : Frame) (order : List Nat) : s.Works (s.takeAtMember f order) := by
  rw [State.takeAtMember]
  split
  · exact State.works_rollAtMember hmember f order
  · exact (s.works_evidence f.sender).trans (State.works_closeAtMember ((s.evidence_span _).symm ▸ hsynced)
      ((s.evidence_state _).trans hmember) f order)
  · split
    · exact .refl s
    · exact State.works_takeReform hsynced _ _ _
  any_goals exact .refl s
  all_goals
    split
    · exact s.works_tableFrame f
    · exact .refl s

/-- Two changes of the Formation Controller of a synced station, one after the other. -/
theorem State.works_edits {s : State} (hsynced : s.span.synced = true) {fc fc' : FormationController}
    (h : s.formation.Edits s.pins.station fc) (h' : fc.Edits s.pins.station fc') :
    s.Works { s with formation := fc' } :=
  (State.Acts.formation fc h (.inl hsynced)).works.trans
    (State.Acts.formation (s := { s with formation := fc }) fc' h' (.inl hsynced)).works

/-- A ROLL joins the roll list; the station's own makes it ROLLED first, and a ROLLED station's timer starts (R120 to
R123). -/
theorem State.works_recordRoll {s : State} (hsynced : s.span.synced = true) (hforming : s.formation.Forming)
    (f : Frame) (isOwn : Bool) : s.Works (s.recordRoll f isOwn) := by
  have hjoin := FormationController.Edits.recordRoll (self := s.pins.station)
    (s.formation.rollList ||| stationBit f.sender)
    (if s.formation.highest < f.aux then f.aux else s.formation.highest) hforming
  have hroll (timer : Time) := State.works_edits hsynced hjoin (.becomeRolled timer hforming)
  rw [State.recordRoll]
  rcases hforming with hlisten | hrolled
  · cases isOwn with
    | true => simpa [hlisten, FormationController.startClose, FormationController.addRoll] using hroll _
    | false =>
      simpa [hlisten, FormationController.addRoll] using (State.Acts.formation _ hjoin (.inl hsynced)).works
  · simpa [hrolled, FormationController.startClose, FormationController.addRoll] using hroll _

theorem State.works_adoptClose {s : State} (hsynced : s.span.synced = true) (hforming : s.formation.Forming)
    (f : Frame) (order : List Nat) : s.Works (s.adoptClose f order) := by
  cases hbit : f.key.getLsbD s.pins.station.toNat with
  | true =>
    rw [State.adoptClose_of_in_bitmap hbit]
    exact (State.Acts.formation _ (.adopt f.key f.epoch hforming hbit) (.inl hsynced)).works.trans
      (State.works_retest _)
  | false =>
    rw [State.adoptClose_of_not_in_bitmap hbit hforming]
    exact (State.works_edits hsynced (.lateRoll false) (.exclude f.epoch)).trans (State.works_retest _)

theorem State.works_takeForming {s : State} (hsynced : s.span.synced = true) (hforming : s.formation.Forming)
    (f : Frame) (isOwn : Bool) (order : List Nat) : s.Works (s.takeForming f isOwn order) := by
  rw [State.takeForming]
  split
  · exact State.works_recordRoll hsynced hforming f isOwn
  · split
    · exact State.works_exclude hsynced _ _
    · exact State.works_adoptClose hsynced hforming f order
  · split
    · exact .refl s
    · exact State.works_takeReform hsynced _ _ _
  any_goals exact .refl s
  all_goals exact State.works_exclude hsynced _ _

theorem State.works_handOn {s : State} (hsynced : s.span.synced = true) (f : Frame) (o : SendOutcome) (isOwn : Bool)
    (order : List Nat) : s.Works (s.handOn f o isOwn order) := by
  rw [State.handOn]
  split
  · rw [State.hearExcluded]
    split
    · exact State.works_takeReform hsynced _ _ _
    · exact (State.Acts.formation (s := s) _ (.heardEpoch f.epoch) (.inr rfl)).works
  next h =>
    split
    · exact State.works_takeForming hsynced (.inl h) f isOwn order
    · exact .refl s
  next h =>
    split
    · exact State.works_takeForming hsynced (.inr h) f isOwn order
    · exact .refl s
  next h =>
    split
    · exact State.works_takeAtMember hsynced h f order
    · exact .refl s

end Sys2Proof.Machine
end

section
/-! PROOFS. The close of a window, and every command of the table: what `exec` can do, and what every step keeps. -/

namespace Sys2Proof.Machine

/-! ### The close of a window -/

theorem State.reaches_setWinner (s : State) (winner : Option Station) (heard : Option (List Byte)) :
    s.Reaches (s.setWinner winner heard) := by
  have hkeep : s.Reaches (s.keepWinner winner) := by
    rw [State.keepWinner.eq_def]
    split
    · split
      · exact s.reaches_span s.clock _ rfl
      · exact .refl s
    · exact .refl s
  rw [State.setWinner.eq_def]
  split
  next bs =>
    split
    · have hsender := s.reaches_span s.clock { s.span with lastWinner := some (Frame.ofBytes bs).sender } rfl
      dsimp only
      split
      · exact hsender
      · exact hsender.trans (State.reaches_becomeSynced _)
    · exact hkeep
  · exact hkeep

/-- An intact frame leaves the station synced (R103). -/
theorem State.setWinner_synced (s : State) (winner : Option Station) {bs : List Byte} (h : frameIntact bs = true) :
    (s.setWinner winner (some bs)).span.synced = true := by
  simp only [State.setWinner, h, if_true]
  split
  next hsynced => exact hsynced
  next => rfl

/-- What the station makes of the send of its own frame leaves its Span Interface (R111). -/
def State.sentAtClose (s : State) (own : Option OwnFrame) (o : SendOutcome) (l : Lines) : State :=
  match own with
  | some x => (s.targetEvidence x l).ownSent x o
  | none => s

theorem State.works_sentAtClose (s : State) (own : Option OwnFrame) (o : SendOutcome) (l : Lines) :
    s.Works (s.sentAtClose own o l) := by
  rw [State.sentAtClose.eq_def]
  split
  · exact (s.works_targetEvidence _ _).trans (State.works_ownSent _ _ _)
  · exact .refl s

/-- The close without SPD± driven in the window, as one operation after another (R19, R106 to R112). -/
theorem State.closeHeard_eq (s : State) (own : Option OwnFrame) (bs : List Byte) (l : Lines) (order : List Nat) :
    let f := Frame.ofBytes bs
    let o := if frameIntact bs then frameOutcome f.kind l else .voided
    let t := (s.sentAtClose own o l).settlePlace f o
    let u := if l.chk || !frameIntact bs then t else t.handOn f o own.isSome order
    s.closeHeard own bs l order =
      match own with
      | some x => u.requeueReform x o
      | none => u := by
  cases own <;> rfl

theorem State.works_closeHeard {s : State} (own : Option OwnFrame) (bs : List Byte) (l : Lines) (order : List Nat)
    (h : frameIntact bs = true → s.span.synced = true) : s.Works (s.closeHeard own bs l order) := by
  have hsettled (o : SendOutcome) := (s.works_sentAtClose own o l).trans
    (State.works_settlePlace (s.sentAtClose own o l) (Frame.ofBytes bs) o)
  have hhanded (o : SendOutcome) : s.Works
      (if l.chk || !frameIntact bs then (s.sentAtClose own o l).settlePlace (Frame.ofBytes bs) o
      else ((s.sentAtClose own o l).settlePlace (Frame.ofBytes bs) o).handOn (Frame.ofBytes bs) o own.isSome order) := by
    split
    · exact hsettled o
    next hheard =>
      have hintact : frameIntact bs = true := by simp at hheard; exact hheard.2
      exact (hsettled o).trans (State.works_handOn ((congrArg SpanInterface.synced (hsettled o).span).trans (h hintact)) _ _ _ _)
  rw [State.closeHeard_eq]
  cases own with
  | none => exact hhanded _
  | some x => exact (hhanded _).trans (State.works_requeueReform _ _ _)

theorem State.reaches_followIntruder (s : State) (x : Intrusion) : s.Reaches (s.followIntruder x) := by
  match x with
  | .absent => exact .refl s
  | .driven _ => exact s.reaches_span s.clock _ rfl
  | .released t none => exact s.reaches_span (pins := { s.pins with spdReleased := t }) s.clock _ rfl
  | .released t (some bs) =>
    exact ((s.reaches_span (pins := { s.pins with spdReleased := t }) s.clock s.span rfl).trans
      (State.reaches_judgeFrame _ none none bs)).trans (State.reaches_span _ _ _ rfl)

theorem State.reaches_endWindow (s : State) : s.Reaches s.endWindow := s.reaches_span _ _ rfl

theorem State.reaches_closeWindow (s : State) (ack rty chk : Bool) (order : List Nat) :
    s.Reaches (s.closeWindow ack rty chk order) := by
  rw [State.closeWindow]
  split
  next winner own heard _ =>
    refine State.Reaches.trans ?_ (State.reaches_followIntruder _ _)
    have hclosed := s.reaches_endWindow.trans (State.reaches_setWinner _ winner heard)
    cases heard with
    | none => exact hclosed
    | some bs =>
      exact hclosed.trans (State.works_closeHeard own bs _ order (State.setWinner_synced _ winner)).reaches
  · split
    · split
      · exact s.reaches_endWindow
      · exact .refl s
    · exact .refl s
  · exact .refl s
  · exact .refl s

/-! ### Every command -/

theorem State.reaches_assertReset (s : State) (t : Time) : s.Reaches (s.assertReset t) :=
  (s.works_port (p := { s.port with sdo := [] }) rfl rfl le_rfl).reaches.trans (State.reaches_span _ _ _ rfl)

theorem State.reaches_closeExpires (s : State) : s.Reaches s.closeExpires := by
  rw [State.closeExpires]
  split
  next t _ => exact (s.reaches_advance t).trans (State.Acts.formation _ (.closeExpires _) (.inr rfl)).works.reaches
  next => exact .refl s

theorem State.reaches_recloseExpires (s : State) : s.Reaches s.recloseExpires := by
  rw [State.recloseExpires]
  split
  next t _ => exact (s.reaches_advance t).trans (State.Acts.formation _ (.stopReclose _) (.inr rfl)).works.reaches
  next => exact .refl s

theorem State.reaches_readyAt (s : State) (i : Fin 8) : s.Reaches (s.readyAt i) := by
  rw [State.readyAt]
  split
  · split
    · exact s.reaches_advance _
    · exact .refl s
  · exact .refl s

theorem State.reaches_expireAt (s : State) (i : Fin 8) : s.Reaches (s.expireAt i) := by
  rw [State.expireAt]
  split
  · exact (s.reaches_advance _).trans (State.works_deadlineAt _ i).reaches
  · exact .refl s

/-- A command at the head of each kind is tested and served (R139). -/
theorem exec_row (kind : CommandKind) (h : kind ≠ .reform) (s : State) :
    exec kind.row s = .next (s.followOn fun s => s.atHead kind kind.serve) := by
  cases kind with
  | reform => exact absurd rfl h
  | _ => rfl

/-- Every command but the rise of RESET# is a sequence of changes. -/
theorem exec_reaches {c : Instr} (hc : ∀ u straps, c ≠ .hardResetRelease u straps) (s : State) :
    ∃ t, exec c s = .next t ∧ s.Reaches t := by
  have hhead (kind : CommandKind) := s.reaches_followOn fun u => u.works_atHead_serve kind
  cases c with
  | hardResetRelease u straps => exact absurd rfl (hc u straps)
  | hardResetAssert t =>
    refine ⟨_, rfl, ?_⟩
    split
    · exact s.reaches_assertReset t
    · exact .refl s
  | putShort | putLong | pop | stat | spiUnknownCode => exact ⟨_, rfl, s.reaches_spiEnds _ _ _⟩
  | badCommand => exact ⟨_, rfl, s.reaches_followOn State.works_badAtHead⟩
  | read => exact ⟨_, rfl, hhead .read⟩
  | write => exact ⟨_, rfl, hhead .write⟩
  | swap => exact ⟨_, rfl, hhead .swap⟩
  | add => exact ⟨_, rfl, hhead .add⟩
  | delete => exact ⟨_, rfl, hhead .delete⟩
  | reserve => exact ⟨_, rfl, hhead .reserve⟩
  | commit => exact ⟨_, rfl, hhead .commit⟩
  | release => exact ⟨_, rfl, hhead .release⟩
  | fence => exact ⟨_, rfl, hhead .fence⟩
  | watch => exact ⟨_, rfl, hhead .watch⟩
  | unwatch => exact ⟨_, rfl, hhead .unwatch⟩
  | drop => exact ⟨_, rfl, hhead .drop⟩
  | reform => exact ⟨_, rfl, s.reaches_followOn State.works_reformAtHead⟩
  | idleTimeout => exact ⟨_, rfl, s.reaches_onEvent State.reaches_idleExpires⟩
  | arbitrationPoint t req =>
    exact ⟨_, rfl, s.reaches_onEvent fun u => (u.reaches_advance t).trans (State.reaches_arbitrate _ req)⟩
  | frameStart start =>
    refine ⟨_, rfl, ?_⟩
    split
    · exact s.reaches_onEvent fun u => u.reaches_beginFrame _ _
    · exact s.reaches_span _ s.span rfl
  | emptyTenureEnd => exact ⟨_, rfl, s.reaches_onEvent State.reaches_endEmptyTenure⟩
  | frameHeard bytes =>
    refine ⟨_, rfl, ?_⟩
    split
    · exact s.reaches_onEvent fun u => u.reaches_hearFrame bytes
    · exact s.reaches_releaseSpd _ _
  | responseWindowClose ack rty chk order =>
    exact ⟨_, rfl, s.reaches_onEvent fun u => u.reaches_closeWindow ack rty chk order⟩
  | outboundDiscard => exact ⟨_, rfl, s.reaches_limitRow State.works_discardHead⟩
  | publishDropped => exact ⟨_, rfl, s.reaches_limitRow State.works_dropPublish⟩
  | retryLimit i => exact ⟨_, rfl, s.reaches_limitRow fun u => u.works_retryLimitAt i⟩
  | attemptLimit i => exact ⟨_, rfl, s.reaches_limitRow fun u => u.works_attemptLimitAt i⟩
  | readyTime i => exact ⟨_, rfl, s.reaches_onEvent fun u => u.reaches_readyAt i⟩
  | deadlineExpiry i => exact ⟨_, rfl, s.reaches_onEvent fun u => u.reaches_expireAt i⟩
  | memberSilent st order => exact ⟨_, rfl, s.reaches_limitRow fun u => u.works_memberSilentAt st order⟩
  | closeTimerExpiry => exact ⟨_, rfl, s.reaches_onEvent State.reaches_closeExpires⟩
  | recloseTimerExpiry => exact ⟨_, rfl, s.reaches_onEvent State.reaches_recloseExpires⟩
  | inboundFetchHandled => exact ⟨_, rfl, s.reaches_followOn State.works_handleFetch⟩
  | inboundUpdateHandled => exact ⟨_, rfl, s.reaches_followOn State.works_handleUpdate⟩
  | noticeDelivery ahead => exact ⟨_, rfl, s.reaches_followOn fun u => u.works_deliverNotice ahead⟩

/-- The rise of RESET#: a pulse shorter than 20 CLK cycles faults, and a longer one gives every block its reset value. -/
theorem exec_hardResetRelease_of_low {s : State} {since : Time} (h : s.pins.resetLow = some since) (u : Time)
    (straps : Station) :
    exec (.hardResetRelease u straps) s =
      if max s.clock u < since + 20 then .fault .resetPulseTooShort
      else .next (.afterReset (max s.clock u) straps s.pins.spdSince s.pins.spdReleased s.pending) := by
  change execHardResetRelease u straps s = _
  rw [execHardResetRelease, h]
  rfl

theorem exec_hardResetRelease_of_high {s : State} (h : s.pins.resetLow = none) (u : Time) (straps : Station) :
    exec (.hardResetRelease u straps) s = .next s := by
  change execHardResetRelease u straps s = _
  rw [execHardResetRelease, h]

/-- What a command can do: a sequence of changes, or the rise of RESET#. -/
theorem exec_cases {c : Instr} {s t : State} (h : exec c s = .next t) :
    s.Reaches t ∨
      ∃ now straps, t = .afterReset now straps s.pins.spdSince s.pins.spdReleased s.pending := by
  by_cases hc : ∃ u straps, c = .hardResetRelease u straps
  · obtain ⟨u, straps, rfl⟩ := hc
    cases hlow : s.pins.resetLow with
    | none =>
      rw [exec_hardResetRelease_of_high hlow] at h
      obtain rfl : s = t := Host.Outcome.next.inj h
      exact .inl (.refl s)
    | some since =>
      rw [exec_hardResetRelease_of_low hlow] at h
      split at h
      · exact nomatch h
      · exact .inr ⟨_, _, (Host.Outcome.next.inj h).symm⟩
  · obtain ⟨u, hu, hreach⟩ := exec_reaches (fun u straps heq => hc ⟨u, straps, heq⟩) s
    obtain rfl : u = t := Host.Outcome.next.inj (hu.symm.trans h)
    exact .inl hreach

/-- What every change keeps, and what holds when RESET# rises, every step keeps. -/
theorem step_keeps {P : State → Prop} (hqueue : ∀ (s : State) (q : List Instr), P s → P { s with pending := q })
    (hmoves : ∀ s t : State, s.Moves t → P s → P t)
    (hreset : ∀ now straps spd released q, P (.afterReset now straps spd released q)) :
    ∀ s t : State, P s → step s = .next t → P t := by
  intro s t hs h
  rw [step] at h
  split at h
  · obtain rfl : s = t := Host.Outcome.next.inj h
    exact hs
  · rcases exec_cases h with hreach | ⟨now, straps, rfl⟩
    · exact hreach.keeps hmoves (hqueue s _ hs)
    · exact hreset ..

/-! ### The queue of commands -/

theorem State.Moves.pending {s t : State} (h : s.Moves t) : t.pending = s.pending := by
  cases h with
  | acts h => exact h.pending
  | span => rfl

/-- Settles O2: no change touches the queue, and the rise of RESET# keeps it. -/
theorem execKeepsPendingQueue : Obligations.ExecKeepsPendingQueue := by
  intro c s t h
  rcases exec_cases h with hreach | ⟨now, straps, rfl⟩
  · exact hreach.keeps (P := fun u => u.pending = s.pending) (fun u v hmove hu => hmove.pending.trans hu) rfl
  · rfl

/-- Settles O3: every command but the rise of RESET# answers a next state (`exec_reaches`), and that one faults exactly
after a short pulse. -/
theorem onlyShortResetPulseStops : Obligations.OnlyShortResetPulseStops := by
  intro c s
  by_cases hc : ∃ u straps, c = .hardResetRelease u straps
  · obtain ⟨u, straps, rfl⟩ := hc
    cases hlow : s.pins.resetLow with
    | none => exact .inl ⟨s, exec_hardResetRelease_of_high hlow u straps, fun _ _ _ _ hsome => nomatch hsome⟩
    | some since =>
      rw [exec_hardResetRelease_of_low hlow]
      split
      next hshort => exact .inr ⟨rfl, u, straps, since, rfl, rfl, hshort⟩
      next hlong =>
        refine .inl ⟨_, rfl, fun u' straps' since' heq hsince => ?_⟩
        cases heq
        cases hsince
        exact Nat.le_of_not_lt hlong
  · obtain ⟨t, ht, -⟩ := exec_reaches (fun u straps heq => hc ⟨u, straps, heq⟩) s
    exact .inl ⟨t, ht, fun u straps _ heq _ => absurd ⟨u, straps, heq⟩ hc⟩

/-- Settles O1. -/
theorem stepRunsFrontCommand : Obligations.StepRunsFrontCommand := by
  refine ⟨fun s c rest h => ?_, fun s h => ?_⟩
  · rw [step, h]
  · rw [step, h]

end Sys2Proof.Machine
end

section
/-! PROOFS. Several commands end at one event without a record: those of pending entries and, with a REFORM, those that the
Formation Controller holds (R93 to R95, R134). What becomes of the queues, the pending table and the slots, whatever the
order. -/

namespace Sys2Proof.Machine

/-- A pending entry ends without a record, or a REFORM command held completes OK. -/
def State.endOne (o : CmdOutcome) (s : State) : Fin 8 ⊕ HostTag → State
  | .inl i => s.failEntry i o 0
  | .inr tag =>
    s.complete { hostTag := tag, outcome := .ok, key := 0, version := 0, present := false, value := none }

/-- Several of them end, in the given order. -/
def State.endAll (s : State) (o : CmdOutcome) (xs : List (Fin 8 ⊕ HostTag)) : State :=
  xs.foldl (State.endOne o) s

theorem State.endAll_cons (s : State) (o : CmdOutcome) (x : Fin 8 ⊕ HostTag) (xs : List (Fin 8 ⊕ HostTag)) :
    s.endAll o (x :: xs) = (s.endOne o x).endAll o xs := rfl

theorem State.failAll_eq_endAll (is : List (Fin 8)) (o : CmdOutcome) (s : State) :
    s.failAll is o = s.endAll o (is.map .inl) := by
  rw [State.endAll, List.foldl_map]
  rfl

theorem State.reformCompletions_eq_endAll (s : State) (xs : List (Fin 8 ⊕ HostTag)) :
    s.reformCompletions xs = s.endAll .reformed xs := by
  rw [State.reformCompletions, State.endAll]
  congr

/-- No pending entry stands twice in the list. -/
def EndsOnce (xs : List (Fin 8 ⊕ HostTag)) : Prop :=
  xs.Pairwise fun x y => ∀ i, ¬ (x = .inl i ∧ y = .inl i)

theorem EndsOnce.perm {xs ys : List (Fin 8 ⊕ HostTag)} (h : EndsOnce xs) (hperm : xs.Perm ys) : EndsOnce ys :=
  (hperm.pairwise_iff fun hxy i hyx => hxy i hyx.symm).1 h

theorem endsOnce_entries {is : List (Fin 8)} (h : is.Nodup) : EndsOnce (is.map Sum.inl) := by
  rw [EndsOnce, List.pairwise_map]
  exact h.imp fun hne i hi => hne (Sum.inl.inj (hi.1.trans hi.2.symm))

theorem endsOnce_reformEnds (s : State) : EndsOnce s.reformEnds := by
  rw [EndsOnce, State.reformEnds, List.pairwise_append]
  refine ⟨endsOnce_entries (s.tracker.indices_nodup _), ?_, ?_⟩
  · rw [List.pairwise_map]
    exact List.pairwise_of_forall fun _ _ _ h => nomatch h.1
  · intro x _ y hy i h
    obtain ⟨tag, -, rfl⟩ := List.mem_map.1 hy
    exact nomatch h.2

/-- The record that one of them leaves in the completion queue (R88, R134). -/
def State.endRecord (s : State) (o : CmdOutcome) : Fin 8 ⊕ HostTag → Option QueueRecord
  | .inl i => s.tracker.entries[i].map fun e => .completion
      { hostTag := e.hostTag, outcome := o, key := e.key, version := 0, present := false, value := none }
  | .inr tag => some (.completion
      { hostTag := tag, outcome := .ok, key := 0, version := 0, present := false, value := none })

/-- One end leaves the other entries. -/
theorem State.endOne_entries (s : State) (o : CmdOutcome) (x : Fin 8 ⊕ HostTag) (i : Fin 8) :
    (s.endOne o x).tracker.entries[i] = if x = .inl i then none else s.tracker.entries[i] := by
  cases x with
  | inr tag => simp [State.endOne]
  | inl j =>
    cases hj : s.tracker.entries[j] with
    | none =>
      rw [State.endOne, State.failEntry_of_none hj]
      split
      next h => rw [← Sum.inl.inj h, hj]
      next => rfl
    | some e =>
      rw [State.endOne, State.failEntry_of_some hj, State.withEntryEnded]
      by_cases hij : j = i
      · simp [hij]
      · simp [hij, Fin.val_ne_of_ne hij]

theorem State.endOne_port (s : State) (o : CmdOutcome) (x : Fin 8 ⊕ HostTag) :
    (s.endOne o x).port = { s.port with
      completions := s.port.completions ++ (s.endRecord o x).toList
      outstanding := s.port.outstanding - (s.endRecord o x).toList.length
      fresh := s.port.fresh + (s.endRecord o x).toList.length } := by
  cases x with
  | inr tag => rfl
  | inl j =>
    cases hj : s.tracker.entries[j] with
    | none => simp [State.endOne, State.failEntry_of_none hj, State.endRecord, hj]
    | some e => simp [State.endOne, State.failEntry_of_some hj, State.withEntryEnded, State.endRecord, hj]

theorem State.endOne_endRecord (s : State) (o : CmdOutcome) {x y : Fin 8 ⊕ HostTag}
    (h : ∀ i, ¬ (x = .inl i ∧ y = .inl i)) : (s.endOne o x).endRecord o y = s.endRecord o y := by
  cases y with
  | inr tag => rfl
  | inl j => rw [State.endRecord, State.endRecord, State.endOne_entries, if_neg fun hx => h j ⟨hx, rfl⟩]

/-- Each ended command leaves its record behind the older ones, in the given order, and its place (R88, R171). -/
theorem State.endAll_port (o : CmdOutcome) {xs : List (Fin 8 ⊕ HostTag)} (h : EndsOnce xs) (s : State) :
    (s.endAll o xs).port = { s.port with
      completions := s.port.completions ++ xs.filterMap (s.endRecord o)
      outstanding := s.port.outstanding - (xs.filterMap (s.endRecord o)).length
      fresh := s.port.fresh + (xs.filterMap (s.endRecord o)).length } := by
  induction xs generalizing s with
  | nil => simp [State.endAll]
  | cons x xs ih =>
    obtain ⟨hx, hxs⟩ := List.pairwise_cons.1 h
    have hrest : xs.filterMap ((s.endOne o x).endRecord o) = xs.filterMap (s.endRecord o) :=
      List.filterMap_congr fun y hy => s.endOne_endRecord o (hx y hy)
    rw [State.endAll_cons, ih hxs, hrest, State.endOne_port]
    cases hr : s.endRecord o x with
    | none => simp [hr]
    | some r => simp [hr, Nat.sub_sub, Nat.add_assoc, Nat.add_comm 1]

/-- The ended entries leave the pending table; the others stay. -/
theorem State.endAll_entries (s : State) (o : CmdOutcome) (xs : List (Fin 8 ⊕ HostTag)) (i : Fin 8) :
    (Sum.inl i ∈ xs → (s.endAll o xs).tracker.entries[i] = none) ∧
      (Sum.inl i ∉ xs → (s.endAll o xs).tracker.entries[i] = s.tracker.entries[i]) := by
  induction xs generalizing s with
  | nil => exact ⟨fun h => (nomatch h), fun _ => rfl⟩
  | cons x xs ih =>
    obtain ⟨ihmem, ihother⟩ := ih (s.endOne o x)
    have hone := s.endOne_entries o x i
    rw [State.endAll_cons]
    by_cases hmem : Sum.inl i ∈ xs
    · exact ⟨fun _ => ihmem hmem, fun h => absurd (List.mem_cons_of_mem x hmem) h⟩
    · rw [ihother hmem, hone]
      refine ⟨fun h => if_pos ((List.mem_cons.1 h).resolve_right hmem).symm, fun h => if_neg ?_⟩
      rintro rfl
      exact h List.mem_cons_self

/-- One of the list names the slot. -/
def State.EndNames (s : State) (xs : List (Fin 8 ⊕ HostTag)) (n : Fin 4) : Prop :=
  ∃ i e, Sum.inl i ∈ xs ∧ s.tracker.entries[i] = some e ∧ e.slot = some n

/-- The slots after one end: the one that the entry names is EMPTY (R64, R69). -/
theorem State.endOne_slots (s : State) (o : CmdOutcome) (x : Fin 8 ⊕ HostTag) (n : Fin 4) :
    (s.EndNames [x] n → (s.endOne o x).slots[n] = { s.slots[n] with state := .empty }) ∧
      (¬ s.EndNames [x] n → (s.endOne o x).slots[n] = s.slots[n]) := by
  cases x with
  | inr tag => exact ⟨fun ⟨i, _, hi, _⟩ => by simp at hi, fun _ => rfl⟩
  | inl j =>
    cases hj : s.tracker.entries[j] with
    | none =>
      rw [State.endOne, State.failEntry_of_none hj]
      refine ⟨fun ⟨i, e, hi, he, _⟩ => ?_, fun _ => rfl⟩
      obtain rfl : i = j := by simpa using hi
      exact nomatch hj.symm.trans he
    | some e =>
      rw [State.endOne, State.failEntry_of_some hj, State.withEntryEnded]
      have hiff : s.EndNames [.inl j] n ↔ e.slot = some n := by
        refine ⟨fun ⟨i, e', hi, he', hslot⟩ => ?_, fun hslot => ⟨j, e, by simp, hj, hslot⟩⟩
        obtain rfl : i = j := by simpa using hi
        exact Option.some.inj (hj.symm.trans he') ▸ hslot
      rw [hiff]
      cases hslot : e.slot with
      | none => simp
      | some m =>
        by_cases hmn : m = n
        · subst hmn
          simp
        · simp [hmn, Fin.val_ne_of_ne hmn]

/-- The slots that the ended entries name are EMPTY, with key and version kept; the others stay (R64, R69). -/
theorem State.endAll_slots (s : State) (o : CmdOutcome) (xs : List (Fin 8 ⊕ HostTag)) (n : Fin 4) :
    (s.EndNames xs n → (s.endAll o xs).slots[n] = { s.slots[n] with state := .empty }) ∧
      (¬ s.EndNames xs n → (s.endAll o xs).slots[n] = s.slots[n]) := by
  induction xs generalizing s with
  | nil => exact ⟨fun ⟨_, _, hi, _⟩ => (nomatch hi), fun _ => rfl⟩
  | cons x xs ih =>
    obtain ⟨hnamed, hother⟩ := s.endOne_slots o x n
    obtain ⟨ihnamed, ihother⟩ := ih (s.endOne o x)
    have hrest : (s.endOne o x).EndNames xs n → s.EndNames (x :: xs) n := by
      rintro ⟨i, e, hi, he, hslot⟩
      rw [State.endOne_entries] at he
      split at he
      · exact nomatch he
      · exact ⟨i, e, List.mem_cons_of_mem x hi, he, hslot⟩
    rw [State.endAll_cons]
    by_cases hx : s.EndNames [x] n
    · refine ⟨fun _ => ?_, fun h => absurd hx fun ⟨i, e, hi, he, hslot⟩ => h ⟨i, e, by simp_all, he, hslot⟩⟩
      by_cases hxs : (s.endOne o x).EndNames xs n
      · rw [ihnamed hxs, hnamed hx]
      · rw [ihother hxs, hnamed hx]
    · refine ⟨fun ⟨i, e, hi, he, hslot⟩ => ?_, fun h => ?_⟩
      · have hxi : x ≠ .inl i := fun hxi => hx ⟨i, e, by simp [hxi], he, hslot⟩
        rw [ihnamed ⟨i, e, (List.mem_cons.1 hi).resolve_left (Ne.symm hxi),
          by rw [State.endOne_entries, if_neg hxi, he], hslot⟩, hother hx]
      · rw [ihother fun hxs => h (hrest hxs), hother hx]

/-- Ending entries tests the head again, which the event does anyway (R140). -/
theorem State.endAll_engine (s : State) (o : CmdOutcome) (xs : List (Fin 8 ⊕ HostTag)) :
    (s.endAll o xs).engine.retest = s.engine.retest := by
  induction xs generalizing s with
  | nil => rfl
  | cons x xs ih =>
    rw [State.endAll_cons, ih]
    cases x with
    | inr tag => rfl
    | inl i =>
      cases hi : s.tracker.entries[i] with
      | none => rw [State.endOne, State.failEntry_of_none hi]
      | some e => simp [State.endOne, State.failEntry_of_some hi, State.withEntryEnded]

/-! ### Every entry that satisfies a condition -/

/-- The entries in use that satisfy `p` leave one record each (R88). -/
theorem State.filterMap_endRecord_indices (s : State) (o : CmdOutcome) (p : PendingEntry → Bool) :
    ((s.tracker.indices p).map Sum.inl).filterMap (s.endRecord o) = s.endedRecords p o := by
  rw [RequestTracker.indices, List.filterMap_map, List.filterMap_filter, State.endedRecords,
    show List.finRange 8 = allEntries from rfl]
  refine List.filterMap_congr fun i _ => ?_
  cases hi : s.tracker.entries[i] with
  | none => simp [RequestTracker.holds, hi]
  | some e => simp [RequestTracker.holds, hi, State.endRecord]

theorem State.endedRecords_length (s : State) (o : CmdOutcome) :
    (s.endedRecords (fun _ => true) o).length = s.tracker.inUse := by
  rw [← State.filterMap_endRecord_indices, List.filterMap_map, RequestTracker.inUse,
    List.length_filterMap_eq_countP, List.countP_eq_length]
  intro i hi
  obtain ⟨e, he, -⟩ := (s.tracker.mem_indices _ i).1 hi
  simp [State.endRecord, he]

/-- A REFORM leaves a record for each entry in use and for each REFORM command held (R94, R134). -/
theorem State.filterMap_endRecord_reformEnds (s : State) (o : CmdOutcome) :
    s.reformEnds.filterMap (s.endRecord o) =
      s.endedRecords (fun _ => true) o ++ s.formation.reformTags.map fun tag => .completion
        { hostTag := tag, outcome := .ok, key := 0, version := 0, present := false, value := none } := by
  rw [State.reformEnds, List.filterMap_append, State.filterMap_endRecord_indices, List.filterMap_map]
  congr 1
  exact congrFun List.filterMap_eq_map _

/-- With every entry ended the pending table is empty. -/
theorem State.endAll_reformEnds_entries (s : State) (o : CmdOutcome) (order : List Nat) (i : Fin 8) :
    (s.endAll o (arrange order s.reformEnds)).tracker.entries[i] = none := by
  obtain ⟨hmem, hother⟩ := s.endAll_entries o (arrange order s.reformEnds) i
  cases hi : s.tracker.entries[i] with
  | some e =>
    refine hmem ((arrange_perm order s.reformEnds).mem_iff.2 (List.mem_append_left _ ?_))
    exact List.mem_map_of_mem ((s.tracker.mem_indices _ i).2 ⟨e, hi, rfl⟩)
  | none =>
    by_cases h : Sum.inl i ∈ arrange order s.reformEnds
    · exact hmem h
    · rw [hother h, hi]

end Sys2Proof.Machine
end

section
/-! PROOFS. Reading the home store after each operation on it (R2, R11, R17, R38), and how an update is judged (R6 to
R10). -/

namespace Sys2Proof.Machine

/-! ### Reading the home store -/

/-- A key below every listed one holds the cleared record (R14). -/
theorem storeGet_of_lt {low k : Nat} {m : HomeStore} (h : storeSorted low m = true) (hk : k < low) :
    storeGet m k = .cleared := by
  induction m generalizing low with
  | nil => rfl
  | cons x rest ih =>
    obtain ⟨a, y⟩ := x
    simp only [storeSorted, Bool.and_eq_true, decide_eq_true_eq] at h
    obtain ⟨⟨hla, -⟩, hrest⟩ := h
    rw [storeGet, if_neg (by omega), ih hrest (by omega)]

theorem storeGet_storeSet_sorted {low k : Nat} {m : HomeStore} (h : storeSorted low m = true) (r : HomeRecord) (j : Nat) :
    storeGet (storeSet m k r) j = if j = k then r else storeGet m j := by
  induction m generalizing low with
  | nil =>
    by_cases hr : r = .cleared
    · simp [storeSet, hr, storeGet]
    · simp [storeSet, hr, storeGet, eq_comm]
  | cons x rest ih =>
    obtain ⟨a, y⟩ := x
    simp only [storeSorted, Bool.and_eq_true, decide_eq_true_eq] at h
    obtain ⟨-, hrest⟩ := h
    have hcleared (hk : k < a + 1) : storeGet rest k = .cleared := storeGet_of_lt hrest hk
    simp only [storeSet]
    split
    next hlt =>
      split
      next hr =>
        split
        next hj => rw [hr, hj, storeGet, if_neg (by omega), hcleared (by omega)]
        next => rfl
      next => simp only [storeGet, eq_comm]
    next hle =>
      split
      next heq =>
        subst heq
        split
        next hr =>
          split
          next hj => rw [hr, hj, hcleared (by omega)]
          next hj => rw [storeGet, if_neg (Ne.symm hj)]
        next =>
          simp only [storeGet, eq_comm (a := k)]
          split <;> rfl
      next hne =>
        rw [storeGet, storeGet, ih hrest]
        by_cases ha : a = j
        · rw [if_pos ha, if_pos ha, if_neg (by omega)]
        · rw [if_neg ha, if_neg ha]

/-- The written key reads as written, every other key as before (R2). -/
theorem storeGet_storeSet {m : HomeStore} (h : storeWf m = true) (k : Nat) (r : HomeRecord) (j : Nat) :
    storeGet (storeSet m k r) j = if j = k then r else storeGet m j :=
  storeGet_storeSet_sorted h r j

theorem storeGet_storeMark {m : HomeStore} (h : storeWf m = true) (k : Key) (b : Bool) (j : Nat) :
    storeGet (storeMark m k b) j = if j = k.toNat then { storeGet m j with publishing := b } else storeGet m j := by
  rw [storeMark, storeGet_storeSet h]
  split
  next hj => rw [hj]
  next => rfl

theorem storeGet_storeCommit {m : HomeStore} (h : storeWf m = true) (k : Key) (r : TableRecord) (j : Nat) :
    storeGet (storeCommit m k r) j =
      if j = k.toNat then { committed := r, publishing := false } else storeGet m j :=
  storeGet_storeSet h k.toNat _ j

/-- Clearing the marks keeps every committed record (R38). -/
theorem storeGet_storeClearMarks {low : Nat} {m : HomeStore} (h : storeSorted low m = true) (j : Nat) :
    storeGet (storeClearMarks m) j = { storeGet m j with publishing := false } := by
  induction m generalizing low with
  | nil => rfl
  | cons x rest ih =>
    obtain ⟨a, y⟩ := x
    simp only [storeSorted, Bool.and_eq_true, decide_eq_true_eq] at h
    obtain ⟨-, hrest⟩ := h
    rw [storeClearMarks]
    split
    next hc =>
      rw [ih hrest, storeGet]
      split
      next hj =>
        rw [← hj, storeGet_of_lt hrest (Nat.lt_succ_self a)]
        exact congrArg (HomeRecord.mk · false) hc.symm
      next => rfl
    next =>
      rw [storeGet, storeGet, ih hrest]
      split <;> rfl

/-- Settles O32: each operation but the clearing of the marks is one `storeSet`. -/
theorem homeStoreReadsWhatWasWritten : Obligations.HomeStoreReadsWhatWasWritten :=
  fun _ k j h => ⟨fun r => storeGet_storeSet h k.toNat r j, fun b => storeGet_storeMark h k b j,
    fun r => storeGet_storeCommit h k r j, storeGet_storeClearMarks h j⟩

/-! ### Judging an update -/

theorem newRecord_version (old : TableRecord) (u : Update) : (newRecord old u).version = old.version + 1 := by
  rw [newRecord]
  split <;> rfl

theorem zeroValue_getElem (w : Fin 8) : zeroValue[w] = 0 := by
  decide +revert

/-- The word that an ADD names is summed, the other words stay; an absent record counts as zero (R9). -/
theorem newRecord_add_value (old : TableRecord) {u : Update} (hop : u.op = .add) {x : Fin 8}
    (hx : u.wordIndex.toNat = x.val) (w : Fin 8) :
    (newRecord old u).value[w] =
      (if old.present = true then old.value[w] else 0) + if w = x then u.value[0] else 0 := by
  have hbase : (if old.present = true then old.value else zeroValue)[w] =
      if old.present = true then old.value[w] else 0 := by
    split
    · rfl
    · exact zeroValue_getElem w
  have hword : (if old.present = true then old.value else zeroValue).getD x.val 0 =
      (if old.present = true then old.value else zeroValue)[x] := by
    simp [Vector.getD]
  simp only [newRecord, hop, hx]
  rw [Fin.getElem_fin, Vector.getElem_setIfInBounds, ← Fin.getElem_fin, hbase, hword]
  by_cases hw : w = x
  · rw [if_pos (congrArg Fin.val hw.symm), if_pos hw, ← hbase, hw]
  · rw [if_neg fun h => hw (Fin.ext h.symm), if_neg hw]
    exact (BitVec.add_zero _).symm

/-- Settles O31: the two tests of `judge` in their order, then `newRecord` by the update's op. -/
theorem updateIsJudgedAgainstCommittedRecord : Obligations.UpdateIsJudgedAgainstCommittedRecord := by
  intro old u
  have htop : old.version = topVersion ↔ old.version.toNat = 4294967295 :=
    ⟨fun h => by rw [h]; rfl, fun h => BitVec.eq_of_toNat_eq h⟩
  refine ⟨fun h => if_pos (htop.2 h), fun hlt => ⟨fun hswap hne => ?_, fun hexpected => ?_⟩⟩
  · rw [judge, if_neg fun h => hlt.ne (htop.1 h), if_pos ⟨hswap, hne⟩]
  · have hjudge : judge old u = .ok (newRecord old u) := by
      rw [judge, if_neg fun h => hlt.ne (htop.1 h), if_neg fun h => h.2 (hexpected h.1)]
    refine ⟨newRecord old u, hjudge, ?_, ?_, ?_, ?_⟩
    · rw [newRecord_version, BitVec.toNat_add]
      exact Nat.mod_eq_of_lt (by simpa using Nat.succ_lt_succ hlt)
    · rintro (hop | hop) <;> simp [newRecord, hop]
    · intro hop
      refine ⟨by simp [newRecord, hop], fun w => ?_⟩
      simpa only [newRecord, hop] using zeroValue_getElem w
    · intro hop
      exact ⟨by simp [newRecord, hop], fun x w hx => newRecord_add_value old hop hx w⟩

end Sys2Proof.Machine
end

section
/-! PROOFS. The law of the Host Port's places (R169): every change of a block keeps it. -/

namespace Sys2Proof.Machine

/-! ### How many entries are in use -/

theorem RequestTracker.inUse_eq_countP (t : RequestTracker) :
    t.inUse = allEntries.countP fun i => t.entries[i].isSome := by
  rw [RequestTracker.inUse, RequestTracker.indices, List.countP_eq_length_filter]
  congr 2
  funext i
  rw [RequestTracker.holds]
  cases t.entries[i] <;> rfl

/-- Two tables that agree but at one index differ in use by what they hold there. -/
theorem RequestTracker.inUse_of_eq_except {t t' : RequestTracker} (i : Fin 8)
    (h : ∀ j : Fin 8, j ≠ i → t'.entries[j] = t.entries[j]) :
    t'.inUse + t.entries[i].isSome.toNat = t.inUse + t'.entries[i].isSome.toNat := by
  have hsplit : allEntries.Perm (i :: allEntries.erase i) := List.perm_cons_erase (mem_allEntries i)
  have hnodup : i ∉ allEntries.erase i := (List.Nodup.mem_erase_iff (by decide)).not.2 fun h => h.1 rfl
  have hrest : (allEntries.erase i).countP (fun j => t'.entries[j].isSome) =
      (allEntries.erase i).countP fun j => t.entries[j].isSome :=
    List.countP_congr fun j hj => by rw [h j fun heq => hnodup (heq ▸ hj)]
  rw [RequestTracker.inUse_eq_countP, RequestTracker.inUse_eq_countP, hsplit.countP_eq, hsplit.countP_eq,
    List.countP_cons, List.countP_cons, hrest]
  cases t.entries[i].isSome <;> cases t'.entries[i].isSome <;> simp

theorem RequestTracker.getElem_set_of_ne {v : Vector (Option PendingEntry) 8} {i j : Fin 8} (h : j ≠ i)
    (x : Option PendingEntry) : (v.set i x)[j] = v[j] := by
  simp [Fin.val_ne_of_ne h.symm]

theorem RequestTracker.inUse_allocate {t : RequestTracker} {i : Fin 8} (h : t.entries[i] = none) (e : PendingEntry) :
    (t.allocate i e).inUse = t.inUse + 1 := by
  have hcount := RequestTracker.inUse_of_eq_except (t := t) (t' := t.allocate i e) i
    fun j hj => RequestTracker.getElem_set_of_ne hj _
  simpa [h, RequestTracker.allocate] using hcount

theorem RequestTracker.inUse_free {t : RequestTracker} {i : Fin 8} {e : PendingEntry} (h : t.entries[i] = some e) :
    (t.free i).inUse + 1 = t.inUse := by
  have hcount := RequestTracker.inUse_of_eq_except (t := t) (t' := t.free i) i
    fun j hj => RequestTracker.getElem_set_of_ne hj _
  simpa [h, RequestTracker.free] using hcount

theorem RequestTracker.inUse_set {t : RequestTracker} {i : Fin 8} {e : PendingEntry} (h : t.entries[i] = some e)
    (e' : PendingEntry) : ({ t with entries := t.entries.set i (some e') } : RequestTracker).inUse = t.inUse := by
  have hcount := RequestTracker.inUse_of_eq_except (t := t)
    (t' := { t with entries := t.entries.set i (some e') }) i fun j hj => RequestTracker.getElem_set_of_ne hj _
  simpa [h] using hcount

theorem RequestTracker.inUse_of_empty {t : RequestTracker} (h : ∀ i : Fin 8, t.entries[i] = none) : t.inUse = 0 := by
  rw [RequestTracker.inUse_eq_countP, List.countP_eq_zero]
  intro i _
  simp [h i]

/-! ### The law -/

theorem HostPort.room_iff (p : HostPort) :
    p.room = true ↔ p.commands.length < 16 ∧ p.completions.length + p.outstanding < 32 := by
  simp only [HostPort.room, Bool.and_eq_true, decide_eq_true_eq]
  rfl

theorem State.noticeDue_iff (s : State) :
    s.noticeDue = true ↔ s.port.completions.length + s.port.outstanding < 32 ∧ s.watch.fired ≠ [] := by
  have hspace : 1 ≤ s.port.freeSpace ↔ s.port.completions.length + s.port.outstanding < 32 := by
    change 1 ≤ 32 - (s.port.completions.length + s.port.outstanding) ↔ _
    omega
  rw [State.noticeDue, Bool.and_eq_true, decide_eq_true_eq, Bool.not_eq_true', List.isEmpty_eq_false_iff, hspace]

theorem HostPort.placeNotice_length (p : HostPort) (n : Notice) (ahead : Nat) :
    (p.placeNotice n ahead).completions.length = p.completions.length + 1 := by
  simp [HostPort.placeNotice, List.length_insertIdx]

/-- A delivery takes free space, and leaves commands and outstanding count (R164). -/
theorem State.deliverNotice_port (s : State) (ahead : Nat) :
    (s.deliverNotice ahead).port.commands = s.port.commands ∧
      (s.deliverNotice ahead).port.outstanding = s.port.outstanding ∧
      ((s.deliverNotice ahead).port.completions.length = s.port.completions.length ∨
        (s.deliverNotice ahead).port.completions.length + s.port.outstanding ≤ 32) := by
  rw [State.deliverNotice]
  split
  next hdue =>
    obtain ⟨hspace, -⟩ := s.noticeDue_iff.1 hdue
    split
    · refine ⟨rfl, rfl, .inr ?_⟩
      rw [HostPort.placeNotice_length]
      omega
    · exact ⟨rfl, rfl, .inl rfl⟩
  next => exact ⟨rfl, rfl, .inl rfl⟩

/-- A command that leaves the head leaves its place in the command queue. -/
theorem length_tail_add_one {α : Type} {xs : List α} (h : xs ≠ []) : xs.tail.length + 1 = xs.length := by
  rw [List.length_tail]
  have := List.length_pos_iff.2 h
  omega

theorem PortLaw.acts {s t : State} (h : s.Acts t) (law : PortLaw s) : PortLaw t := by
  obtain ⟨hcommands, hcount, hplaces⟩ := law
  cases h with
  | port p seen hc ho hl =>
    exact ⟨by simpa [hc] using hcommands, by simpa [hc, ho] using hcount, by simp only [ho]; omega⟩
  | accept c room =>
    obtain ⟨hroom, hspace⟩ := s.port.room_iff.1 room
    refine ⟨?_, ?_, ?_⟩ <;> simp only [State.acceptCommand, List.length_append, List.length_singleton] <;> omega
  | finish c head =>
    have htail := length_tail_add_one head
    refine ⟨?_, ?_, ?_⟩ <;>
      simp only [State.finishHead_eq, List.length_append, List.length_singleton] <;> omega
  | handOver c head =>
    have htail := length_tail_add_one head
    refine ⟨?_, ?_, ?_⟩ <;>
      simp only [State.handOverReform, State.leaveHead, List.length_append, List.length_singleton] <;> omega
  | dispatch i e slots head free =>
    have htail := length_tail_add_one head
    have huse := RequestTracker.inUse_allocate free e
    refine ⟨?_, ?_, ?_⟩ <;> simp only [State.leaveHead] <;> omega
  | deliver ahead =>
    obtain ⟨hc, ho, hl⟩ := s.deliverNotice_port ahead
    rw [s.deliverNotice_frame ahead]
    exact ⟨by simpa [hc] using hcommands, by simpa [hc, ho] using hcount, by simp only [ho]; omega⟩
  | formation fc h => exact ⟨hcommands, by simpa [h.reformTags] using hcount, hplaces⟩
  | endEntry i e c slots entry =>
    have huse := RequestTracker.inUse_free entry
    refine ⟨hcommands, ?_, ?_⟩ <;>
      simp only [HostPort.complete, List.length_append, List.length_singleton] <;> omega
  | sent i e e' entry => exact ⟨hcommands, by simpa [RequestTracker.inUse_set entry] using hcount, hplaces⟩
  | takeReform sender epoch order =>
    have hempty := RequestTracker.inUse_of_empty (s.endAll_reformEnds_entries .reformed order)
    have honce : EndsOnce (arrange order s.reformEnds) := (endsOnce_reformEnds s).perm (arrange_perm _ _).symm
    have hlength : ((arrange order s.reformEnds).filterMap (s.endRecord .reformed)).length =
        s.tracker.inUse + s.formation.reformTags.length := by
      rw [((arrange_perm order s.reformEnds).filterMap _).length_eq, State.filterMap_endRecord_reformEnds,
        List.length_append, List.length_map, State.endedRecords_length]
    have hport := State.endAll_port .reformed honce s
    rw [s.takeReform_eq, State.reformCompletions_eq_endAll]
    refine ⟨?_, ?_, ?_⟩ <;>
      simp only [hport, hempty, FormationController.reformed, List.length_append, List.length_nil, hlength] <;> omega
  | _ => exact ⟨hcommands, hcount, hplaces⟩

theorem PortLaw.afterReset (now : Time) (straps : Station) (spd : Option Time) (released : Time) (q : List Instr) :
    PortLaw (.afterReset now straps spd released q) :=
  ⟨by simp [State.afterReset, HostPort.afterReset], rfl, by simp [State.afterReset, HostPort.afterReset]⟩

/-- Settles O8. -/
theorem everyStepKeepsPortLaw : Obligations.EveryStepKeepsPortLaw :=
  step_keeps (fun _ _ ⟨hcommands, hcount, hplaces⟩ => ⟨hcommands, hcount, hplaces⟩)
    (fun _ _ hmove law => by
      cases hmove with
      | acts h => exact law.acts h
      | span => exact ⟨law.commands_bounded, law.outstanding_counts, law.places_bounded⟩)
    PortLaw.afterReset

end Sys2Proof.Machine
end

section
/-! PROOFS. The Home Engine's law (R17): every change of the Home Engine keeps it. -/

namespace Sys2Proof.Machine

/-- How many PUBLISH frames of a key are queued. -/
def publishCount (k : Key) (outbound : List OutboundEntry) : Nat :=
  (outbound.filter fun o => o.frame.publishes k).length

theorem Frame.publishes_iff (f : Frame) (k : Key) : f.publishes k = true ↔ f.kind = some .publish ∧ f.key = k := by
  simp [Frame.publishes]

theorem publishCount_cons (k : Key) (o : OutboundEntry) (rest : List OutboundEntry) :
    publishCount k (o :: rest) =
      publishCount k rest + if o.frame.kind = some .publish ∧ o.frame.key = k then 1 else 0 := by
  rw [publishCount, publishCount, List.filter_cons]
  simp only [Frame.publishes_iff]
  split <;> rfl

theorem publishCount_append (k : Key) (os : List OutboundEntry) (o : OutboundEntry) :
    publishCount k (os ++ [o]) =
      publishCount k os + if o.frame.kind = some .publish ∧ o.frame.key = k then 1 else 0 := by
  have hone := publishCount_cons k o []
  rw [publishCount, List.filter_append, List.length_append, ← publishCount, ← publishCount, hone]
  exact congrArg _ (Nat.zero_add _)

/-- The law of the Home Engine says nothing of the other blocks. -/
theorem homeLaw_iff (s : State) :
    HomeLaw s ↔ storeWf s.home.store = true ∧
      s.home.inbound.length + (if s.home.heldPlace = true then 1 else 0) ≤ 8 ∧ s.home.outbound.length ≤ 8 ∧
      ∀ k : Key, publishCount k s.home.outbound =
        if (storeGet s.home.store k.toNat).publishing = true then 1 else 0 :=
  ⟨fun ⟨hstore, hin, hout, hmark⟩ => ⟨hstore, hin, hout, hmark⟩,
    fun ⟨hstore, hin, hout, hmark⟩ => ⟨hstore, hin, hout, hmark⟩⟩

theorem HomeLaw.of_home_eq {s t : State} (h : t.home = s.home) (law : HomeLaw s) : HomeLaw t := by
  rw [homeLaw_iff] at law ⊢
  rwa [h]

theorem HomeEngine.hasInboundPlace_iff (h : HomeEngine) :
    h.hasInboundPlace = true ↔ h.inbound.length + (if h.heldPlace = true then 1 else 0) < 8 := by
  rw [HomeEngine.hasInboundPlace, decide_eq_true_eq]
  rfl

/-- A key's home record after a mark is set or cleared, or a record committed: the mark of that key alone. -/
theorem publishing_after_write {m : HomeStore} {k : Key} {r : HomeRecord} (h : storeWf m = true) (j : Key) :
    (storeGet (storeSet m k.toNat r) j.toNat).publishing =
      if j = k then r.publishing else (storeGet m j.toNat).publishing := by
  rw [storeGet_storeSet h]
  simp only [BitVec.toNat_inj]
  split <;> rfl

/-- A PUBLISH at the head of the queue is the only one of its key: with it gone no PUBLISH of the key is left (R17). -/
theorem publishCount_tail {m : HomeStore} {o : OutboundEntry} {rest : List OutboundEntry}
    (hkind : o.frame.kind = some .publish)
    (hmark : ∀ k : Key, publishCount k (o :: rest) = if (storeGet m k.toNat).publishing = true then 1 else 0)
    (k : Key) :
    publishCount k rest = if k = o.frame.key then 0 else if (storeGet m k.toNat).publishing = true then 1 else 0 := by
  have hk := hmark k
  rw [publishCount_cons] at hk
  by_cases hkey : k = o.frame.key
  · rw [if_pos ⟨hkind, hkey.symm⟩] at hk
    rw [if_pos hkey]
    split at hk <;> omega
  · rw [if_neg fun h => hkey h.2.symm] at hk
    rw [if_neg hkey, ← hk, Nat.add_zero]

theorem HomeLaw.edits {s : State} {h' : HomeEngine} (h : s.home.Edits h') (law : HomeLaw s) :
    HomeLaw { s with home := h' } := by
  obtain ⟨hstore, hin, hout, hmark⟩ := (homeLaw_iff s).1 law
  rw [homeLaw_iff]
  cases h with
  | popInbound =>
    exact ⟨hstore, (Nat.add_le_add_right (by simp) _).trans hin, hout, hmark⟩
  | joinInbound q room =>
    have hroom := (HomeEngine.hasInboundPlace_iff _).1 room
    refine ⟨hstore, ?_, hout, hmark⟩
    simp only [List.length_append, List.length_singleton]
    omega
  | takePlace q held =>
    rw [if_pos held] at hin
    exact ⟨hstore, by simpa using hin, hout, hmark⟩
  | releasePlace => exact ⟨hstore, (Nat.le_add_right _ _).trans hin, hout, hmark⟩
  | holdPlace room => exact ⟨hstore, by simpa using room, hout, hmark⟩
  | send o room kind =>
    refine ⟨hstore, hin, by simpa using room, fun k => ?_⟩
    rw [publishCount_append, if_neg fun h => kind h.1]
    exact hmark k
  | publish o room kind free =>
    refine ⟨storeMark_wf hstore _ _, hin, by simpa using room, fun k => ?_⟩
    rw [publishCount_append, storeMark, publishing_after_write hstore, hmark k]
    by_cases hk : k = o.frame.key
    · rw [hk, free]
      simp [kind]
    · have hkey : ¬ (o.frame.kind = some .publish ∧ o.frame.key = k) := fun h => hk h.2.symm
      rw [if_neg hk, if_neg hkey, Nat.add_zero]
  | leave o rest head kind =>
    rw [head] at hout hmark
    refine ⟨hstore, hin, Nat.le_of_succ_le hout, fun k => ?_⟩
    rw [← hmark k, publishCount_cons, if_neg fun h => kind h.1]
    rfl
  | count o rest head attempts =>
    rw [head] at hout hmark
    refine ⟨hstore, hin, hout, fun k => ?_⟩
    rw [← hmark k, publishCount_cons, publishCount_cons]
  | unpublish o rest head kind refuse refuses =>
    rw [head] at hout hmark
    have hrest := publishCount_tail kind hmark
    have hcount (k : Key) : publishCount k (rest ++ refuse.toList) = publishCount k rest := by
      cases refuse with
      | none => simp
      | some x => rw [Option.toList_some, publishCount_append, if_neg fun h => refuses x rfl h.1, Nat.add_zero]
    refine ⟨storeMark_wf hstore _ _, hin, ?_, fun k => ?_⟩
    · cases refuse with
      | none => simpa using Nat.le_of_succ_le hout
      | some x => simpa using hout
    · rw [hcount, hrest, storeMark, publishing_after_write hstore]
      split <;> rfl
  | commit o rest head kind r =>
    rw [head] at hout hmark
    refine ⟨storeCommit_wf hstore _ _, hin, Nat.le_of_succ_le hout, fun k => ?_⟩
    rw [publishCount_tail kind hmark, storeCommit, publishing_after_write hstore]
    split <;> rfl
  | abandon =>
    refine ⟨storeClearMarks_wf hstore, by simp, by simp, fun k => ?_⟩
    rw [storeGet_storeClearMarks hstore]
    rfl

theorem HomeLaw.of_reset {s : State} (h : s.home = .afterReset) : HomeLaw s := by
  rw [homeLaw_iff, h]
  exact ⟨rfl, by decide, by decide, fun _ => rfl⟩

theorem HomeLaw.acts {s t : State} (h : s.Acts t) (law : HomeLaw s) : HomeLaw t := by
  cases h with
  | home h' h => exact law.edits h
  | takeReform sender epoch order =>
    rw [s.takeReform_eq]
    exact .of_reset rfl
  | deliver ahead =>
    rw [s.deliverNotice_frame ahead]
    exact HomeLaw.of_home_eq (s := s) rfl law
  | _ => exact HomeLaw.of_home_eq (s := s) rfl law

/-- Settles O9. -/
theorem everyStepKeepsHomeLaw : Obligations.EveryStepKeepsHomeLaw :=
  step_keeps (fun s _ law => HomeLaw.of_home_eq (s := s) rfl law)
    (fun s _ hmove law => by
      cases hmove with
      | acts h => exact law.acts h
      | span => exact HomeLaw.of_home_eq (s := s) rfl law)
    fun _ _ _ _ _ => .of_reset rfl

end Sys2Proof.Machine
end

section
/-! PROOFS. The Copy Table's law (R39 to R42): every change of the Copy Table keeps it. -/

namespace Sys2Proof.Machine

/-! ### Counting ways -/

theorem ne_of_mem_allWays_rest {v w : Fin 4} (h : v ∈ allWays.take w.val ∨ v ∈ allWays.drop (w.val + 1)) : v ≠ w := by
  decide +revert

/-- Two tests of the ways that differ in one way only, which the first takes, count one apart. -/
theorem length_filter_allWays_add_one {p q : Fin 4 → Bool} {w : Fin 4} (h : ∀ v, v ≠ w → p v = q v)
    (hp : p w = true) (hq : q w = false) : (allWays.filter p).length = (allWays.filter q).length + 1 := by
  rw [(allWays_split w).1]
  simp only [List.filter_append, List.filter_cons, hp, hq, if_true, List.length_append, List.length_cons,
    List.filter_congr fun v hv => h v (ne_of_mem_allWays_rest (.inl hv)), List.filter_congr fun v hv => h v (ne_of_mem_allWays_rest (.inr hv))]
  rfl

theorem CopyGroup.occupiedCount_congr {g g' : CopyGroup} (h : ∀ v : Fin 4, g'[v].occupied = g[v].occupied) :
    g'.occupiedCount = g.occupiedCount := by
  rw [CopyGroup.occupiedCount, CopyGroup.occupiedCount, funext h]

theorem CopyGroup.occupiedCount_add_one {g g' : CopyGroup} {w : Fin 4}
    (h : ∀ v : Fin 4, v ≠ w → g'[v].occupied = g[v].occupied) (hw : g'[w].occupied = true)
    (hg : g[w].occupied = false) : g'.occupiedCount = g.occupiedCount + 1 :=
  length_filter_allWays_add_one h hw hg

@[simp] theorem CopyEntry.occupied_cleared : CopyEntry.cleared.occupied = false := rfl

/-! ### One group -/

/-- Freeing an occupied way keeps the law: the older ways close up (R42). -/
theorem GroupLaw.release {i : Fin 64} {g : CopyGroup} (law : GroupLaw i g) {w : Fin 4}
    (hw : g[w].occupied = true) : GroupLaw i (g.release w) := by
  have hself : (g.release w)[w] = .cleared := by rw [CopyGroup.getElem_release, if_pos rfl]
  have hother (v : Fin 4) (hv : v ≠ w) := law.getElem_release hv
  have hocc (v : Fin 4) : (g.release w)[v].occupied = true → v ≠ w ∧ g[v].occupied = true := fun h => by
    by_cases hv : v = w
    · rw [hv, hself] at h
      exact nomatch h
    · rw [hother v hv] at h
      exact ⟨hv, h⟩
  have hcount : g.occupiedCount = (g.release w).occupiedCount + 1 :=
    CopyGroup.occupiedCount_add_one (fun v hv => by rw [hother v hv]; rfl) hw (by rw [hself]; rfl)
  refine ⟨fun v hfree => ?_, fun v h => ?_, fun u v hu hv hkey => ?_, fun u v hu hv hage => ?_, fun v h => ?_⟩
  · by_cases hv : v = w
    · rw [hv, hself]
    · rw [hother v hv] at hfree ⊢
      rw [law.free_cleared v hfree]
      simp [CopyEntry.cleared]
  · obtain ⟨hv, ho⟩ := hocc v h
    rw [hother v hv]
    exact law.own_group v ho
  · obtain ⟨hu, hou⟩ := hocc u hu
    obtain ⟨hv, hov⟩ := hocc v hv
    rw [hother u hu, hother v hv] at hkey
    exact law.key_once u v hou hov hkey
  · obtain ⟨hu, hou⟩ := hocc u hu
    obtain ⟨hv, hov⟩ := hocc v hv
    rw [hother u hu, hother v hv] at hage
    have hu' := mt (law.ages_distinct u w hou hw) hu
    have hv' := mt (law.ages_distinct v w hov hw) hv
    refine law.ages_distinct u v hou hov ?_
    dsimp only at hage
    split at hage <;> split at hage <;> omega
  · obtain ⟨hv, ho⟩ := hocc v h
    have hlt := law.ages_dense v ho
    have hltw := law.ages_dense w hw
    have hne := mt (law.ages_distinct v w ho hw) hv
    rw [hother v hv]
    dsimp only
    split <;> omega

/-- Moving a way to the front of the order of use, with what it then holds, keeps the law: the ways that were younger
rise (R41). -/
theorem GroupLaw.raised {i : Fin 64} {g g' : CopyGroup} (law : GroupLaw i g) {w : Fin 4}
    (hocc : g'[w].occupied = true) (hzero : g'[w].age = 0) (hgroup : groupOf g'[w].key = i)
    (hkey : ∀ v : Fin 4, v ≠ w → g[v].occupied = true → g[v].key ≠ g'[w].key)
    (hother : ∀ v : Fin 4, v ≠ w → g'[v] = { g[v] with
      age := if g[v].state ≠ .free ∧ (g[w].state = .free ∨ g[v].age < g[w].age) then g[v].age + 1 else g[v].age }) :
    GroupLaw i g' := by
  have hoccs (v : Fin 4) (hv : v ≠ w) : g'[v].occupied = g[v].occupied := by rw [hother v hv]; rfl
  have hage (v : Fin 4) (hv : v ≠ w) (ho : g[v].occupied = true) :
      g'[v].age = if g[w].state = .free ∨ g[v].age < g[w].age then g[v].age + 1 else g[v].age := by
    rw [hother v hv]
    simp only [CopyEntry.occupied_iff.1 ho, ne_eq, not_false_eq_true, true_and]
  have hpos (v : Fin 4) (hv : v ≠ w) (ho : g[v].occupied = true) : g'[v].age ≠ 0 := by
    rw [hage v hv ho]
    by_cases hw : g[w].state = .free
    · rw [if_pos (.inl hw)]
      exact Nat.succ_ne_zero _
    · have hne := mt (law.ages_distinct v w ho (CopyEntry.occupied_iff.2 hw)) hv
      split <;> omega
  refine ⟨fun v hfree => ?_, fun v h => ?_, fun u v hu hv heq => ?_, fun u v hu hv heq => ?_, fun v h => ?_⟩
  · by_cases hv : v = w
    · rw [hv] at hfree
      exact absurd hfree (CopyEntry.occupied_iff.1 hocc)
    · have hfree' : g[v].state = .free := by rw [hother v hv] at hfree; exact hfree
      rw [hother v hv, law.free_cleared v hfree']
      simp [CopyEntry.cleared]
  · by_cases hv : v = w
    · rw [hv, hgroup]
    · rw [hoccs v hv] at h
      rw [hother v hv]
      exact law.own_group v h
  · by_cases huw : u = w <;> by_cases hvw : v = w
    · rw [huw, hvw]
    · rw [hoccs v hvw] at hv
      rw [huw, hother v hvw] at heq
      exact absurd heq.symm (hkey v hvw hv)
    · rw [hoccs u huw] at hu
      rw [hvw, hother u huw] at heq
      exact absurd heq (hkey u huw hu)
    · rw [hoccs u huw] at hu
      rw [hoccs v hvw] at hv
      rw [hother u huw, hother v hvw] at heq
      exact law.key_once u v hu hv heq
  · by_cases huw : u = w <;> by_cases hvw : v = w
    · rw [huw, hvw]
    · rw [hoccs v hvw] at hv
      rw [huw, hzero] at heq
      exact absurd heq.symm (hpos v hvw hv)
    · rw [hoccs u huw] at hu
      rw [hvw, hzero] at heq
      exact absurd heq (hpos u huw hu)
    · rw [hoccs u huw] at hu
      rw [hoccs v hvw] at hv
      rw [hage u huw hu, hage v hvw hv] at heq
      refine law.ages_distinct u v hu hv ?_
      by_cases hw : g[w].state = .free
      · rw [if_pos (.inl hw), if_pos (.inl hw)] at heq
        exact Nat.succ.inj heq
      · have hu' := mt (law.ages_distinct u w hu (CopyEntry.occupied_iff.2 hw)) huw
        have hv' := mt (law.ages_distinct v w hv (CopyEntry.occupied_iff.2 hw)) hvw
        simp only [hw, false_or] at heq
        split at heq <;> split at heq <;> omega
  · by_cases hw : g[w].state = .free
    · have hwocc : g[w].occupied = false := by
        rw [CopyEntry.occupied, hw]
        rfl
      rw [CopyGroup.occupiedCount_add_one hoccs hocc hwocc]
      by_cases hv : v = w
      · rw [hv, hzero]
        omega
      · rw [hoccs v hv] at h
        have hlt := law.ages_dense v h
        rw [hage v hv h]
        split <;> omega
    · have hwocc := CopyEntry.occupied_iff.2 hw
      have hltw := law.ages_dense w hwocc
      have hsame (v : Fin 4) : g'[v].occupied = g[v].occupied := by
        by_cases hv : v = w
        · rw [hv, hocc, hwocc]
        · exact hoccs v hv
      rw [CopyGroup.occupiedCount_congr hsame]
      by_cases hv : v = w
      · rw [hv, hzero]
        omega
      · rw [hoccs v hv] at h
        have hlt := law.ages_dense v h
        rw [hage v hv h]
        simp only [hw, false_or]
        split <;> omega

theorem GroupLaw.touch {i : Fin 64} {g : CopyGroup} (law : GroupLaw i g) {w : Fin 4}
    (hw : g[w].occupied = true) : GroupLaw i (g.touch w) := by
  have hself : (g.touch w)[w] = { g[w] with age := 0 } := by rw [CopyGroup.getElem_touch, if_pos rfl]
  refine law.raised (w := w) (by rw [hself]; exact hw) (by rw [hself]) (by rw [hself]; exact law.own_group w hw)
    (fun v hv ho hk => ?_) fun v hv => law.getElem_touch hv
  rw [hself] at hk
  exact hv (law.key_once v w ho hw hk)

/-- Claiming a way for a key without one keeps the law (R44). -/
theorem GroupLaw.claim {k : Key} {g : CopyGroup} (law : GroupLaw (groupOf k) g) (h : g.wayOf k = none) :
    GroupLaw (groupOf k) (g.claim k) := by
  cases hw : g.claimable with
  | none =>
    simp only [CopyGroup.claim, hw]
    exact law
  | some w =>
    have hself : (g.claim k)[w] = { state := .filling, key := k, record := .cleared, age := 0 } := by
      rw [CopyGroup.getElem_claim hw, if_pos rfl]
    refine law.raised (w := w) (by rw [hself]; rfl) (by rw [hself]) (by rw [hself])
      (fun v _ ho => by rw [hself]; exact CopyGroup.wayOf_none h v ho) fun v hv => ?_
    rw [CopyGroup.getElem_claim hw, if_neg hv, law.getElem_touch hv]

/-- A way that is occupied anew with the same key and age keeps the law. -/
theorem GroupLaw.refill {i : Fin 64} {g : CopyGroup} (law : GroupLaw i g) {w : Fin 4} (hw : g[w].occupied = true)
    {x : CopyEntry} (hx : x.occupied = true) (hkey : x.key = g[w].key) (hage : x.age = g[w].age) :
    GroupLaw i (g.set w x) := by
  have hget (v : Fin 4) : (g.set w x)[v] = if v = w then x else g[v] := by
    simp [Vector.getElem_set, Fin.ext_iff, eq_comm]
  have hocc (v : Fin 4) : (g.set w x)[v].occupied = g[v].occupied := by
    rw [hget]
    split
    next h => exact hx.trans (h ▸ hw.symm)
    · rfl
  have hkeys (v : Fin 4) : (g.set w x)[v].key = g[v].key := by
    rw [hget]
    split
    next h => exact hkey.trans (h ▸ rfl)
    · rfl
  have hages (v : Fin 4) : (g.set w x)[v].age = g[v].age := by
    rw [hget]
    split
    next h => exact hage.trans (h ▸ rfl)
    · rfl
  refine ⟨fun v hfree => ?_, fun v h => ?_, fun u v hu hv heq => ?_, fun u v hu hv heq => ?_, fun v h => ?_⟩
  · rw [hget] at hfree ⊢
    split at hfree
    · exact absurd hfree (CopyEntry.occupied_iff.1 hx)
    next hv => rw [if_neg hv, law.free_cleared v hfree]
  · rw [hkeys]
    exact law.own_group v (hocc v ▸ h)
  · rw [hkeys, hkeys] at heq
    exact law.key_once u v (hocc u ▸ hu) (hocc v ▸ hv) heq
  · rw [hages, hages] at heq
    exact law.ages_distinct u v (hocc u ▸ hu) (hocc v ▸ hv) heq
  · rw [hages, CopyGroup.occupiedCount_congr hocc]
    exact law.ages_dense v (hocc v ▸ h)

theorem GroupLaw.releaseWhere {i : Fin 64} {g : CopyGroup} (law : GroupLaw i g) (p : Key → Bool) :
    GroupLaw i (g.releaseWhere p) := by
  refine foldl_induct (P := GroupLaw i) (fun g w law => ?_) allWays g law
  split
  next h => exact law.release (Bool.and_eq_true_iff.1 h).1
  · exact law

/-! ### The table -/

theorem groupLaw_set {t : CopyTable} (law : ∀ i : Fin 64, GroupLaw i t[i]) {j : Fin 64} {g : CopyGroup}
    (h : GroupLaw j g) (i : Fin 64) : GroupLaw i (t.set j g)[i] := by
  by_cases hi : i = j
  · subst hi
    simpa using h
  · simpa [Fin.val_ne_of_ne (Ne.symm hi)] using law i

/-- An empty group meets the law (R57). -/
theorem groupLaw_afterReset (i : Fin 64) : GroupLaw i CopyTable.afterReset[i] := by
  have hway (w : Fin 4) : CopyTable.afterReset[i][w] = CopyEntry.cleared := by simp [CopyTable.afterReset]
  have hfree (w : Fin 4) : CopyTable.afterReset[i][w].occupied ≠ true := by rw [hway]; decide
  exact ⟨fun w _ => hway w, fun w h => absurd h (hfree w), fun v w h => absurd h (hfree v),
    fun v w h => absurd h (hfree v), fun w h => absurd h (hfree w)⟩

theorem CopyTable.Edits.groupLaw {t t' : CopyTable} (h : t.Edits t') (law : ∀ i : Fin 64, GroupLaw i t[i]) :
    ∀ i : Fin 64, GroupLaw i t'[i] := by
  cases h with
  | touch k =>
    cases hw : t[groupOf k].wayOf k with
    | none => simpa only [CopyTable.touchKey, hw] using law
    | some w =>
      simp only [CopyTable.touchKey, hw]
      exact groupLaw_set law ((law _).touch (CopyGroup.wayOf_spec hw).1)
  | claim k hnone => exact groupLaw_set law ((law _).claim (Option.map_eq_none_iff.1 hnone))
  | put k r =>
    cases hw : t[groupOf k].wayOf k with
    | none => simpa only [CopyTable.putRecord, hw] using law
    | some w =>
      simp only [CopyTable.putRecord, hw]
      exact groupLaw_set law ((law _).refill (CopyGroup.wayOf_spec hw).1 rfl rfl rfl)
  | drop k =>
    cases hw : t[groupOf k].wayOf k with
    | none => simpa only [CopyTable.dropKey, hw] using law
    | some w =>
      simp only [CopyTable.dropKey, hw]
      intro i
      split
      · exact groupLaw_set law ((law _).release (CopyGroup.wayOf_spec hw).1) i
      · exact law i
  | endFilling k =>
    cases hw : t[groupOf k].wayOf k with
    | none => simpa only [CopyTable.endFilling, hw] using law
    | some w =>
      simp only [CopyTable.endFilling, hw]
      intro i
      split
      · exact groupLaw_set law ((law _).release (CopyGroup.wayOf_spec hw).1) i
      · exact law i
  | releaseWhere p =>
    intro i
    simpa [CopyTable.releaseWhere] using (law i).releaseWhere p
  | reset => exact groupLaw_afterReset

theorem CopyLaw.of_copies_eq {s t : State} (h : t.copies = s.copies) (law : CopyLaw s) : CopyLaw t := by
  intro i
  rw [h]
  exact law i

theorem CopyLaw.of_reset {s : State} (h : s.copies = .afterReset) : CopyLaw s := by
  intro i
  rw [h]
  exact groupLaw_afterReset i

theorem CopyLaw.acts {s t : State} (h : s.Acts t) (law : CopyLaw s) : CopyLaw t := by
  cases h with
  | copies t h => exact h.groupLaw law
  | takeReform sender epoch order =>
    rw [s.takeReform_eq]
    exact .of_reset rfl
  | deliver ahead =>
    rw [s.deliverNotice_frame ahead]
    exact CopyLaw.of_copies_eq (s := s) rfl law
  | _ => exact CopyLaw.of_copies_eq (s := s) rfl law

/-- Settles O10. -/
theorem everyStepKeepsCopyLaw : Obligations.EveryStepKeepsCopyLaw :=
  step_keeps (fun s _ law => CopyLaw.of_copies_eq (s := s) rfl law)
    (fun s _ hmove law => by
      cases hmove with
      | acts h => exact law.acts h
      | span => exact CopyLaw.of_copies_eq (s := s) rfl law)
    fun _ _ _ _ _ => .of_reset rfl

end Sys2Proof.Machine
end

section
/-! PROOFS. The laws of the pending table (R60, R77, R144) and of the watch table (R157, R158): every change of a block
keeps them. -/

namespace Sys2Proof.Machine

theorem getElem_set_fin {α : Type} {n : Nat} (v : Vector α n) (i j : Fin n) (x : α) :
    (v.set i x)[j] = if j = i then x else v[j] := by
  simp [Vector.getElem_set, Fin.ext_iff, eq_comm]

/-! ### The pending table -/

/-- A tag is a generation over an index (R77). -/
theorem RequestTracker.tagAt_mod (t : RequestTracker) (i : Fin 8) : (t.tagAt i).toNat % 8 = i.val := by
  rw [RequestTracker.tagAt, spanTag, BitVec.toNat_ofNat]
  omega

theorem TrackerLaw.of_eq {s t : State} (hentries : t.tracker.entries = s.tracker.entries) (hslots : t.slots = s.slots)
    (law : TrackerLaw s) : TrackerLaw t := by
  obtain ⟨htag, hkey, hslot, hcommitting⟩ := law
  exact ⟨by rwa [hentries], by rwa [hentries], by rwa [hentries], by rwa [hentries, hslots]⟩

/-- An empty table without a COMMITTING slot. -/
theorem TrackerLaw.of_empty {s : State} (hentries : ∀ i : Fin 8, s.tracker.entries[i] = none)
    (hslots : s.slots = Slot.afterReset) : TrackerLaw s := by
  refine ⟨fun i e h => ?_, fun i _ e _ h => ?_, fun i _ e _ _ h => ?_, fun n h => ?_⟩
  · exact nomatch (hentries i).symm.trans h
  · exact nomatch (hentries i).symm.trans h
  · exact nomatch (hentries i).symm.trans h
  · simp [hslots, Slot.afterReset, Slot.cleared] at h

theorem TrackerLaw.slots {s : State} (law : TrackerLaw s) {v : Vector Slot 4}
    (h : ∀ n : Fin 4, v[n].state = .committing → s.slots[n].state = .committing) :
    TrackerLaw { s with slots := v } :=
  ⟨law.tag_names_index, law.one_per_key, law.one_per_slot, fun n hn => law.committing_in_flight n (h n hn)⟩

/-- An entry for a key and slot that have none, at a free index. -/
theorem TrackerLaw.dispatch {s t : State} (law : TrackerLaw s) {i : Fin 8} {e : PendingEntry}
    (hentries : t.tracker.entries = s.tracker.entries.set i (some { e with tag := s.tracker.tagAt i }))
    (free : s.tracker.entries[i] = none) (key : s.tracker.keyPending e.key = false)
    (slot : ∀ n, e.slot = some n → s.tracker.slotBusy n = false)
    (committing : ∀ n : Fin 4, t.slots[n].state = .committing → s.slots[n].state = .committing ∨ e.slot = some n) :
    TrackerLaw t := by
  have hnew : t.tracker.entries[i] = some { e with tag := s.tracker.tagAt i } := by
    rw [hentries, getElem_set_fin, if_pos rfl]
  have hold {j : Fin 8} {x : PendingEntry} (hx : t.tracker.entries[j] = some x) (hj : j ≠ i) :
      s.tracker.entries[j] = some x := by
    rwa [hentries, getElem_set_fin, if_neg hj] at hx
  have heq {x : PendingEntry} (hx : t.tracker.entries[i] = some x) : x = { e with tag := s.tracker.tagAt i } :=
    Option.some.inj (hx.symm.trans hnew)
  have hkeyfree {j : Fin 8} {x : PendingEntry} (hx : s.tracker.entries[j] = some x) : x.key ≠ e.key := fun hk => by
    rw [(s.tracker.keyPending_iff _).2 ⟨j, x, hx, hk⟩] at key
    exact nomatch key
  have hslotfree {j : Fin 8} {x : PendingEntry} {n : Fin 4} (hx : s.tracker.entries[j] = some x)
      (hn : x.slot = some n) : e.slot ≠ some n := fun he => by
    have hbusy := slot n he
    rw [(s.tracker.slotBusy_iff _).2 ⟨j, x, hx, hn⟩] at hbusy
    exact nomatch hbusy
  refine ⟨fun j x hx => ?_, fun j k x y hx hy hxy => ?_, fun j k x y n hx hy hxn hyn => ?_, fun n hn => ?_⟩
  · by_cases hj : j = i
    · subst hj
      rw [heq hx]
      exact s.tracker.tagAt_mod j
    · exact law.tag_names_index j x (hold hx hj)
  · by_cases hj : j = i <;> by_cases hk : k = i
    · rw [hj, hk]
    · subst hj
      rw [heq hx] at hxy
      exact absurd hxy.symm (hkeyfree (hold hy hk))
    · subst hk
      rw [heq hy] at hxy
      exact absurd hxy (hkeyfree (hold hx hj))
    · exact law.one_per_key j k x y (hold hx hj) (hold hy hk) hxy
  · by_cases hj : j = i <;> by_cases hk : k = i
    · rw [hj, hk]
    · subst hj
      rw [heq hx] at hxn
      exact absurd hxn (hslotfree (hold hy hk) hyn)
    · subst hk
      rw [heq hy] at hyn
      exact absurd hyn (hslotfree (hold hx hj) hxn)
    · exact law.one_per_slot j k x y n (hold hx hj) (hold hy hk) hxn hyn
  · rcases committing n hn with hcommitting | hslot
    · obtain ⟨j, x, hx, hxn⟩ := law.committing_in_flight n hcommitting
      have hj : j ≠ i := fun hj => nomatch (hj ▸ hx).symm.trans free
      exact ⟨j, x, by rw [hentries, getElem_set_fin, if_neg hj, hx], hxn⟩
    · exact ⟨i, _, hnew, hslot⟩

/-- An entry that ends leaves its slot to none (R60). -/
theorem TrackerLaw.endEntry {s t : State} (law : TrackerLaw s) {i : Fin 8} {e : PendingEntry}
    (hentries : t.tracker.entries = s.tracker.entries.set i none) (entry : s.tracker.entries[i] = some e)
    (committing : ∀ n : Fin 4, t.slots[n].state = .committing → s.slots[n].state = .committing ∧ e.slot ≠ some n) :
    TrackerLaw t := by
  have hget (j : Fin 8) : t.tracker.entries[j] = if j = i then none else s.tracker.entries[j] := by
    rw [hentries, getElem_set_fin]
  have hold {j : Fin 8} {x : PendingEntry} (hx : t.tracker.entries[j] = some x) : s.tracker.entries[j] = some x := by
    rw [hget] at hx
    split at hx
    · exact nomatch hx
    · exact hx
  refine ⟨fun j x hx => law.tag_names_index j x (hold hx),
    fun j k x y hx hy => law.one_per_key j k x y (hold hx) (hold hy),
    fun j k x y n hx hy => law.one_per_slot j k x y n (hold hx) (hold hy), fun n hn => ?_⟩
  obtain ⟨hs, hne⟩ := committing n hn
  obtain ⟨j, x, hx, hxn⟩ := law.committing_in_flight n hs
  have hj : j ≠ i := by
    rintro rfl
    exact hne (Option.some.inj (entry.symm.trans hx) ▸ hxn)
  exact ⟨j, x, by rw [hget, if_neg hj, hx], hxn⟩

/-- An entry that a send's outcome changes keeps tag, key and slot. -/
theorem TrackerLaw.sent {s t : State} (law : TrackerLaw s) {i : Fin 8} {e e' : PendingEntry}
    (hentries : t.tracker.entries = s.tracker.entries.set i (some e')) (hslots : t.slots = s.slots)
    (entry : s.tracker.entries[i] = some e) (tag : e'.tag = e.tag) (key : e'.key = e.key) (slot : e'.slot = e.slot) :
    TrackerLaw t := by
  have hold {j : Fin 8} {x : PendingEntry} (hx : t.tracker.entries[j] = some x) :
      ∃ y, s.tracker.entries[j] = some y ∧ x.tag = y.tag ∧ x.key = y.key ∧ x.slot = y.slot := by
    rw [hentries, getElem_set_fin] at hx
    split at hx
    next hj =>
      obtain rfl := Option.some.inj hx
      exact ⟨e, hj ▸ entry, tag, key, slot⟩
    · exact ⟨x, hx, rfl, rfl, rfl⟩
  refine ⟨fun j x hx => ?_, fun j k x y hx hy hxy => ?_, fun j k x y n hx hy hxn hyn => ?_, fun n hn => ?_⟩
  · obtain ⟨x', hx', htag, -, -⟩ := hold hx
    rw [htag]
    exact law.tag_names_index j x' hx'
  · obtain ⟨x', hx', -, hxkey, -⟩ := hold hx
    obtain ⟨y', hy', -, hykey, -⟩ := hold hy
    exact law.one_per_key j k x' y' hx' hy' (hxkey.symm.trans (hxy.trans hykey))
  · obtain ⟨x', hx', -, -, hxslot⟩ := hold hx
    obtain ⟨y', hy', -, -, hyslot⟩ := hold hy
    exact law.one_per_slot j k x' y' n hx' hy' (hxslot.symm.trans hxn) (hyslot.symm.trans hyn)
  · obtain ⟨j, x, hx, hxn⟩ := law.committing_in_flight n (hslots ▸ hn)
    by_cases hj : j = i
    · subst hj
      obtain rfl := Option.some.inj (entry.symm.trans hx)
      exact ⟨j, e', by rw [hentries, getElem_set_fin, if_pos rfl], slot.trans hxn⟩
    · exact ⟨j, x, by rw [hentries, getElem_set_fin, if_neg hj, hx], hxn⟩

theorem TrackerLaw.acts {s t : State} (h : s.Acts t) (law : TrackerLaw s) : TrackerLaw t := by
  cases h with
  | slots v h => exact law.slots h
  | dispatch i e slots head free key slot committing => exact law.dispatch rfl free key slot committing
  | endEntry i e c slots entry committing => exact law.endEntry rfl entry committing
  | sent i e e' entry tag key slot => exact law.sent rfl rfl entry tag key slot
  | takeReform sender epoch order =>
    rw [s.takeReform_eq, s.reformCompletions_eq_endAll]
    exact .of_empty (fun i => s.endAll_reformEnds_entries .reformed order i) rfl
  | deliver ahead =>
    rw [s.deliverNotice_frame ahead]
    exact TrackerLaw.of_eq (s := s) rfl rfl law
  | _ => exact TrackerLaw.of_eq (s := s) rfl rfl law

/-- Settles O11. -/
theorem everyStepKeepsTrackerLaw : Obligations.EveryStepKeepsTrackerLaw :=
  step_keeps (fun s _ law => TrackerLaw.of_eq (s := s) rfl rfl law)
    (fun s _ hmove law => by
      cases hmove with
      | acts h => exact law.acts h
      | span => exact TrackerLaw.of_eq (s := s) rfl rfl law)
    fun _ _ _ _ _ => .of_empty (fun i => by simp [State.afterReset, RequestTracker.afterReset]) rfl

/-! ### The watch table -/

theorem WatchLaw.of_watch_eq {s t : State} (law : WatchLaw s) (h : t.watch = s.watch) : WatchLaw t := by
  obtain ⟨honce, hlisted, hkey, harmed, hfree⟩ := law
  exact ⟨by rwa [h], by rwa [h], by rwa [h], by rwa [h], by rwa [h]⟩

/-- One entry is written and the fired list follows it: the law stays. -/
theorem WatchLaw.write {s t : State} (law : WatchLaw s) {i : Fin 32} {x : WatchEntry}
    (hentries : t.watch.entries = s.watch.entries.set i x) (honce : t.watch.fired.Nodup)
    (hself : i ∈ t.watch.fired ↔ x.state = .fired)
    (hothers : ∀ j : Fin 32, j ≠ i → (j ∈ t.watch.fired ↔ j ∈ s.watch.fired))
    (hkey : x.inUse = true → ∀ j : Fin 32, j ≠ i → s.watch.entries[j].inUse = true → s.watch.entries[j].key ≠ x.key)
    (harmed : x.state = .armed → x.firing = .cleared) (hfree : x.state = .free → x = .cleared) : WatchLaw t := by
  have hget (j : Fin 32) : t.watch.entries[j] = if j = i then x else s.watch.entries[j] := by
    rw [hentries, getElem_set_fin]
  refine ⟨honce, fun j => ?_, fun j k hj hk heq => ?_, fun j => ?_, fun j => ?_⟩
  · rw [hget]
    by_cases hj : j = i
    · rw [if_pos hj, hj, hself]
    · rw [if_neg hj, hothers j hj]
      exact law.fired_listed j
  · rw [hget] at hj heq
    rw [hget] at hk heq
    by_cases hji : j = i <;> by_cases hki : k = i
    · rw [hji, hki]
    · rw [if_pos hji] at hj heq
      rw [if_neg hki] at hk heq
      exact absurd heq.symm (hkey hj k hki hk)
    · rw [if_neg hji] at hj heq
      rw [if_pos hki] at hk heq
      exact absurd heq (hkey hk j hji hj)
    · rw [if_neg hji] at hj heq
      rw [if_neg hki] at hk heq
      exact law.key_once j k hj hk heq
  · rw [hget]
    split
    · exact harmed
    · exact law.armed_clear j
  · rw [hget]
    split
    · exact hfree
    · exact law.free_cleared j

/-- A written entry that keeps its key shares it with no other (R158). -/
theorem WatchLaw.key_ne {s : State} (law : WatchLaw s) {i : Fin 32} (hi : s.watch.entries[i].inUse = true)
    (j : Fin 32) (hj : j ≠ i) (hin : s.watch.entries[j].inUse = true) :
    s.watch.entries[j].key ≠ s.watch.entries[i].key :=
  fun h => hj (law.key_once j i hin hi h)

theorem WatchLaw.fire {s : State} (law : WatchLaw s) (i : Fin 32) (f : Firing) :
    WatchLaw { s with watch := s.watch.fire i f } := by
  have hlisted := law.fired_listed i
  rcases s.watch.fire_cases i f with ⟨harmed, hfire⟩ | ⟨hfired, hfire⟩ | ⟨hfree, hfire⟩
  · rw [hfire]
    have hnot : i ∉ s.watch.fired := fun h => nomatch harmed.symm.trans (hlisted.1 h)
    exact law.write rfl (List.nodup_append'.2 ⟨law.fired_once, List.nodup_singleton i, by simpa using hnot⟩)
      (by simp) (fun j hj => by simp [hj]) (fun _ => law.key_ne (WatchEntry.inUse_iff.2 (by rw [harmed]; nofun)))
      nofun nofun
  · rw [hfire]
    exact law.write rfl law.fired_once (by simpa [hfired] using hlisted) (fun _ _ => .rfl)
      (fun hin => law.key_ne hin) (fun h => nomatch hfired.symm.trans h) (fun h => nomatch hfired.symm.trans h)
  · rw [hfire]
    exact law

theorem WatchLaw.edits {s : State} (law : WatchLaw s) {w : WatchUnit} (h : s.watch.Edits w) :
    WatchLaw { s with watch := w } := by
  cases h with
  | fire i f => exact law.fire i f
  | disarm k =>
    cases hk : s.watch.entryOf k with
    | none =>
      rw [WatchUnit.disarm_of_unwatched hk]
      exact law
    | some i =>
      rw [WatchUnit.disarm_of_watched hk]
      exact law.write rfl (law.fired_once.filter _) (by simp [WatchEntry.cleared]) (fun j hj => by simp [hj])
        nofun nofun fun _ => rfl
  | arm k cookie every w' h =>
    cases hk : s.watch.entryOf k with
    | some i =>
      obtain ⟨hin, -⟩ := WatchUnit.entryOf_spec hk
      rw [WatchUnit.arm_of_watched hk] at h
      obtain rfl := Option.some.inj h
      exact law.write rfl law.fired_once (law.fired_listed i) (fun _ _ => .rfl) (fun _ => law.key_ne hin)
        (law.armed_clear i) fun hfree => absurd hfree (WatchEntry.inUse_iff.1 hin)
    | none =>
      cases hi : s.watch.firstFree with
      | none =>
        rw [WatchUnit.arm_of_full hk hi] at h
        exact nomatch h
      | some i =>
        have hfree : s.watch.entries[i].state = .free := by simpa using List.find?_some hi
        rw [WatchUnit.arm_of_free hk hi] at h
        obtain rfl := Option.some.inj h
        exact law.write rfl law.fired_once
          ⟨fun h => (nomatch hfree.symm.trans ((law.fired_listed i).1 h)), nofun⟩ (fun _ _ => .rfl)
          (fun _ j _ hin => WatchUnit.entryOf_none hk j hin) (fun _ => rfl) nofun

/-- Several firings keep the law. -/
theorem WatchLaw.fireAll {s : State} (law : WatchLaw s) (p : WatchEntry → Bool) (f : Firing) :
    WatchLaw { s with watch := s.watch.fireAll p f } :=
  foldl_induct (P := fun w => WatchLaw { s with watch := w }) (fun _ i law => law.fire i f) _ _ law

/-- A delivered entry is ARMED again or FREE, and leaves the fired list (R165). -/
theorem WatchLaw.deliver {s : State} (law : WatchLaw s) (ahead : Nat) : WatchLaw (s.deliverNotice ahead) := by
  rw [State.deliverNotice]
  split
  · split
    next i rest hfired =>
      have honce := law.fired_once
      rw [hfired, List.nodup_cons] at honce
      have hin : s.watch.entries[i].inUse = true := by
        rw [WatchEntry.inUse_iff, (law.fired_listed i).1 (hfired ▸ List.mem_cons_self)]
        nofun
      refine law.write rfl honce.2 ?_ (fun j hj => by simp [hfired, hj]) ?_ ?_ ?_
      · rw [WatchEntry.delivered]
        split <;> simp [honce.1, WatchEntry.cleared]
      · rw [WatchEntry.delivered]
        split
        · exact fun _ => law.key_ne hin
        · exact nofun
      · rw [WatchEntry.delivered]
        split
        · exact fun _ => rfl
        · exact nofun
      · rw [WatchEntry.delivered]
        split
        · exact nofun
        · exact fun _ => rfl
    · exact law
  · exact law

theorem WatchLaw.acts {s t : State} (h : s.Acts t) (law : WatchLaw s) : WatchLaw t := by
  cases h with
  | watch w h => exact law.edits h
  | deliver ahead => exact law.deliver ahead
  | takeReform sender epoch order =>
    rw [s.takeReform_eq]
    have hfired := law.fireAll WatchEntry.inUse { reason := .reformed, origin := sender, record := .cleared }
    exact hfired.of_watch_eq rfl
  | _ => exact WatchLaw.of_watch_eq (s := s) law rfl

theorem WatchLaw.of_reset {s : State} (h : s.watch = .afterReset) : WatchLaw s := by
  have hget (i : Fin 32) : s.watch.entries[i] = .cleared := by simp [h, WatchUnit.afterReset]
  have hfired : s.watch.fired = [] := by rw [h]; rfl
  refine ⟨by simp [hfired], fun i => by simp [hfired, hget, WatchEntry.cleared, -Fin.getElem_fin], fun i j hi => ?_,
    fun i hi => ?_, fun i _ => hget i⟩
  · rw [hget] at hi
    exact nomatch hi
  · rw [hget]
    rfl

/-- Settles O12. -/
theorem everyStepKeepsWatchLaw : Obligations.EveryStepKeepsWatchLaw :=
  step_keeps (fun s _ law => WatchLaw.of_watch_eq (s := s) law rfl)
    (fun s _ hmove law => by
      cases hmove with
      | acts h => exact law.acts h
      | span => exact WatchLaw.of_watch_eq (s := s) law rfl)
    fun _ _ _ _ _ => .of_reset rfl

end Sys2Proof.Machine
end

section
/-! PROOFS. The member table's law (R125, R126): every change of the Formation Controller keeps it. -/

namespace Sys2Proof.Machine

theorem mem_allStations (st : Station) : st ∈ allStations := by
  decide +revert

theorem MemberLaw.of_eq {s t : State} (hformation : t.formation = s.formation)
    (hstation : t.pins.station = s.pins.station) (law : MemberLaw s) : MemberLaw t := by
  obtain ⟨htable, hself, hascend, hranks, hup, hbound, hthree, hclose, hreclose, hforming⟩ := law
  rw [← hformation] at htable hself hascend hranks hup hbound hthree hclose hreclose hforming
  rw [← hstation] at hself hup
  exact ⟨htable, hself, hascend, hranks, hup, hbound, hthree, hclose, hreclose, hforming⟩

/-- A member table has one entry for a station (R125). -/
theorem MemberLaw.eq_of_station_eq {s : State} (law : MemberLaw s) {x m : Member} (hx : x ∈ s.formation.members)
    (hm : m ∈ s.formation.members) (h : x.station = m.station) : x = m := by
  have hnodup : (s.formation.members.map fun m => m.station.toNat).Nodup :=
    law.stations_ascend.imp fun h => Nat.ne_of_lt h
  exact List.inj_on_of_nodup_map hnodup hx hm (congrArg BitVec.toNat h)

/-- Changing the health and the count of one station's entry keeps the law where the changed entry meets it. -/
theorem MemberLaw.modify {s : State} (law : MemberLaw s) {st : Station} {g : Member → Member}
    (hstation : ∀ m, (g m).station = m.station) (hrank : ∀ m, (g m).rank = m.rank)
    (hself : ∀ m ∈ s.formation.members, m.station = st → st = s.pins.station → (g m).health = .up ∧ (g m).silence = 0)
    (hbound : ∀ m ∈ s.formation.members, m.station = st → (g m).silence ≤ 3)
    (hthree : ∀ m ∈ s.formation.members, m.station = st → (g m).health = .silent → (g m).silence = 3) :
    MemberLaw { s with formation := s.formation.modify st g } := by
  have hmap {α : Type} (f : Member → α) (hf : ∀ m, f (g m) = f m) :
      (s.formation.modify st g).members.map f = s.formation.members.map f := by
    rw [FormationController.modify, List.map_map]
    refine List.map_congr_left fun m _ => ?_
    rw [Function.comp_apply]
    split
    · exact hf m
    · rfl
  have hmem {x : Member} (hx : x ∈ (s.formation.modify st g).members) :
      ∃ m ∈ s.formation.members, m.station = st ∧ x = g m ∨ x ∈ s.formation.members := by
    obtain ⟨m, hm, rfl⟩ := List.mem_map.1 hx
    by_cases hst : m.station = st
    · exact ⟨m, hm, .inl ⟨hst, if_pos hst⟩⟩
    · rw [if_neg hst]
      exact ⟨m, hm, .inr hm⟩
  refine ⟨fun h => ?_, fun h => ?_, ?_, ?_, fun x hx hxs => ?_, fun x hx => ?_, fun x hx hsilent => ?_,
    law.close_timer_rolled, law.reclose_timer_member, law.roll_list_forming⟩
  · simp [FormationController.modify, law.table_of_member h]
  · obtain ⟨m, hm, hms⟩ := law.self_listed h
    refine ⟨_, List.mem_map_of_mem hm, ?_⟩
    split
    · exact (hstation m).trans hms
    · exact hms
  · rw [hmap (fun m => m.station.toNat) fun m => congrArg BitVec.toNat (hstation m)]
    exact law.stations_ascend
  · rw [hmap _ hrank, FormationController.modify_length]
    exact law.ranks_count
  · obtain ⟨m, hm, ⟨hst, rfl⟩ | hx⟩ := hmem hx
    · exact hself m hm hst (hst ▸ (hstation m).symm.trans hxs)
    · exact law.self_up x hx hxs
  · obtain ⟨m, hm, ⟨hst, rfl⟩ | hx⟩ := hmem hx
    · exact hbound m hm hst
    · exact law.silence_bounded x hx
  · obtain ⟨m, hm, ⟨hst, rfl⟩ | hx⟩ := hmem hx
    · exact hthree m hm hst hsilent
    · exact law.silent_at_three x hx hsilent

theorem Member.silenced_eq (m : Member) (now : Time) :
    m.silenced now =
      if m.health = .up ∧ m.evidenceAt ≠ some now then { m with silence := min (m.silence + 1) 3 } else m := by
  rw [Member.silenced]
  cases m.health with
  | up =>
    have hlimit : Config.silenceLimit = 3 := rfl
    by_cases h : m.evidenceAt = some now <;> simp [h, hlimit]
  | silent => simp
  | lost => simp

theorem MemberLaw.edits {s : State} (law : MemberLaw s) {fc : FormationController}
    (h : s.formation.Edits s.pins.station fc) : MemberLaw { s with formation := fc } := by
  cases h with
  | alive st now h =>
    refine law.modify (fun m => ?_) (fun m => ?_) (fun m _ _ hst => absurd hst h) (fun m hm _ => ?_)
      fun m hm _ hsilent => ?_
    all_goals rw [Member.alive_eq] at *
    · split <;> rfl
    · split <;> rfl
    · split
      · exact Nat.zero_le 3
      · exact law.silence_bounded m hm
    · split at hsilent
      · exact nomatch hsilent
      next hup => rw [if_neg hup]; exact law.silent_at_three m hm hsilent
  | silenced st now h =>
    refine law.modify (fun m => ?_) (fun m => ?_) (fun m _ _ hst => absurd hst h) (fun m hm _ => ?_)
      fun m hm _ hsilent => ?_
    all_goals rw [Member.silenced_eq] at *
    · split <;> rfl
    · split <;> rfl
    · split
      · exact Nat.min_le_right _ _
      · exact law.silence_bounded m hm
    · split at hsilent
      next hup => exact nomatch hup.1.symm.trans hsilent
      next hup => rw [if_neg hup]; exact law.silent_at_three m hm hsilent
  | silent m hm due =>
    rw [Member.dueSilent, Bool.and_eq_true, decide_eq_true_eq] at due
    have hthree : 3 ≤ m.silence := due.2
    have hsame (x : Member) (hx : x ∈ s.formation.members) (hst : x.station = m.station) : x = m :=
      law.eq_of_station_eq hx hm hst
    refine law.modify (fun _ => rfl) (fun _ => rfl) (fun x hx hst hself => ?_)
      (fun x hx _ => law.silence_bounded x hx) fun x hx hst _ => ?_
    · have hzero := (law.self_up m hm hself).2
      omega
    · have hle := law.silence_bounded x hx
      rw [← hsame x hx hst] at hthree
      exact Nat.le_antisymm hle hthree
  | lost st h =>
    exact law.modify (fun _ => rfl) (fun _ => rfl) (fun m _ _ hst => absurd hst h)
      (fun m hm _ => law.silence_bounded m hm) nofun
  | startReclose u h => exact { law with reclose_timer_member := fun _ => h }
  | stopReclose close => exact { law with reclose_timer_member := fun h => absurd rfl h }
  | closeExpires close => exact { law with close_timer_rolled := fun h => absurd rfl h }
  | recordRoll rollList highest h =>
    refine { law with roll_list_forming := fun hstate => ?_ }
    rcases hstate with hm | hx
    · exact absurd hm h.not_member
    · rcases h with h | h <;> exact nomatch h.symm.trans hx
  | becomeRolled timer h =>
    refine { law with
      table_of_member := fun _ => law.table_of_member h.not_member
      self_listed := nofun
      close_timer_rolled := fun _ => rfl
      reclose_timer_member := fun hr => absurd (law.reclose_timer_member hr) h.not_member
      roll_list_forming := fun hstate => ?_ }
    rcases hstate with h | h <;> exact nomatch h
  | rollSent =>
    refine { law with roll_list_forming := fun h => ?_ }
    obtain ⟨hlist, hhighest, -⟩ := law.roll_list_forming h
    exact ⟨hlist, hhighest, rfl⟩
  | closeSent => exact { law with }
  | reform e => exact { law with }
  | lateRoll b => exact { law with }
  | heardEpoch e => exact { law with }
  | queueRoll e h =>
    refine { law with roll_list_forming := fun hstate => ?_ }
    rcases hstate with hm | hx
    · exact nomatch h.symm.trans hm
    · exact nomatch h.symm.trans hx
  | adopt b e forming h =>
    have hstations : (membersOf b).map (fun m => m.station.toNat) = (stationsOf b).map BitVec.toNat := by
      rw [← membersOf_stations, List.map_map]
      rfl
    refine
      { table_of_member := fun h => absurd rfl h
        self_listed := fun _ => ?_
        stations_ascend := ?_
        ranks_count := membersOf_ranks b
        self_up := fun m hm _ => ⟨(membersOf_up hm).1, (membersOf_up hm).2.1⟩
        silence_bounded := fun m hm => by rw [(membersOf_up hm).2.1]; omega
        silent_at_three := fun m hm hs => nomatch (membersOf_up hm).1.symm.trans hs
        close_timer_rolled := fun h => absurd rfl h
        reclose_timer_member := fun _ => rfl
        roll_list_forming := fun _ => ⟨rfl, rfl, rfl⟩ }
    · have hin : s.pins.station ∈ (membersOf b).map Member.station := by
        rw [membersOf_stations, stationsOf, List.mem_filter]
        exact ⟨mem_allStations _, h⟩
      exact List.mem_map.1 hin
    · rw [hstations, List.pairwise_map]
      exact stationsOf_ascend b
  | exclude e =>
    exact
      { table_of_member := fun _ => rfl
        self_listed := nofun
        stations_ascend := .nil
        ranks_count := rfl
        self_up := nofun
        silence_bounded := nofun
        silent_at_three := nofun
        close_timer_rolled := fun h => absurd rfl h
        reclose_timer_member := fun h => absurd rfl h
        roll_list_forming := fun _ => ⟨rfl, rfl, rfl⟩ }

/-- In LISTEN with no table and no timer. -/
theorem MemberLaw.of_listen {s : State} (hstate : s.formation.state = .listen) (hmembers : s.formation.members = [])
    (hclose : s.formation.closeTimer = none) (hreclose : s.formation.recloseTimer = none) : MemberLaw s := by
  constructor <;> simp [hstate, hmembers, hclose, hreclose]

theorem MemberLaw.acts {s t : State} (h : s.Acts t) (law : MemberLaw s) : MemberLaw t := by
  cases h with
  | formation fc h => exact law.edits h
  | handOver c head =>
    exact ⟨law.table_of_member, law.self_listed, law.stations_ascend, law.ranks_count, law.self_up, law.silence_bounded,
      law.silent_at_three, law.close_timer_rolled, law.reclose_timer_member, law.roll_list_forming⟩
  | takeReform sender epoch order =>
    rw [s.takeReform_eq]
    exact .of_listen rfl rfl rfl rfl
  | deliver ahead =>
    rw [s.deliverNotice_frame ahead]
    exact MemberLaw.of_eq (s := s) rfl rfl law
  | _ => exact MemberLaw.of_eq (s := s) rfl rfl law

/-- Settles O13. -/
theorem everyStepKeepsMemberLaw : Obligations.EveryStepKeepsMemberLaw :=
  step_keeps (fun s _ law => MemberLaw.of_eq (s := s) rfl rfl law)
    (fun s _ hmove law => by
      cases hmove with
      | acts h => exact law.acts h
      | span now pins span station => exact MemberLaw.of_eq (s := s) rfl station law)
    fun _ _ _ _ _ => .of_listen rfl rfl rfl rfl

end Sys2Proof.Machine
end

section
/-! PROOFS. The Span Interface's law (R97, R101 to R104, R116), which every step keeps. Work on the blocks behind the
Span Interface leaves it; each operation of the Span Interface is one case for each tenure it can meet. -/

namespace Sys2Proof.Machine

/-! ### The law by tenure -/

/-- What sync rules: an unsynced station requests nothing, knows no winner and is in LISTEN; a synced one knows the last
winner (R101 to R103, R119). -/
structure SyncLaw (s : State) : Prop where
  unsynced : s.span.synced = false → s.span.req = false ∧ s.span.lastWinner = none ∧ s.formation.state = .listen
  synced : s.span.synced = true → s.span.lastWinner ≠ none

/-- No response line is driven, and SPD± was not driven inside a window. -/
def SpanInterface.Released (x : SpanInterface) : Prop :=
  x.ack = false ∧ x.rty = false ∧ x.chk = false ∧ x.intruder = .absent

/-- A tenure that is no response window. -/
def Tenure.NoWindow (x : Tenure) : Prop :=
  ∀ w own heard, x ≠ .window w own heard

theorem SpanLaw.sync {s : State} (law : SpanLaw s) : SyncLaw s :=
  ⟨law.unsynced_silent, law.synced_winner⟩

theorem SpanLaw.released {s : State} (law : SpanLaw s) (h : s.span.tenure.NoWindow) : s.span.Released := by
  have hlines : ¬ (s.span.ack = true ∨ s.span.rty = true ∨ s.span.chk = true) := fun hline => by
    obtain ⟨w, own, heard, hw⟩ := law.lines_in_window hline
    exact h w own heard hw
  simp only [not_or, Bool.not_eq_true] at hlines
  refine ⟨hlines.1, hlines.2.1, hlines.2.2, by_contra fun hintruder => ?_⟩
  obtain ⟨w, own, heard, hw⟩ := law.intruder_in_window hintruder
  exact h w own heard hw

/-- With the lines released and no window open, what the law says of lines and windows holds. -/
theorem SpanLaw.of_released {s : State} (sync : SyncLaw s) (tenure : s.span.tenure.NoWindow)
    (released : s.span.Released)
    (won : ∀ w since own, s.span.tenure = .won w since own → s.span.synced = true)
    (frame : ∀ w own, s.span.tenure = .frame w own → s.span.idleTimer = .held ∧ (w ≠ none → s.span.synced = true))
    (idle : s.live = true → s.pins.spdSince ≠ none → s.span.idleTimer = .held)
    (reset : s.pins.resetLow ≠ none → s.span.req = false ∧ s.span.tenure = .quiet) : SpanLaw s := by
  obtain ⟨hack, hrty, hchk, hintruder⟩ := released
  refine ⟨sync.unsynced, sync.synced, won, frame, fun w own heard h => absurd h (tenure w own heard), fun h => ?_,
    fun h => absurd hintruder h, fun w own heard h => absurd h (tenure w own heard), idle, fun h => ?_, fun h => ?_⟩
  · simp [hack, hrty, hchk] at h
  · rw [hchk] at h
    exact nomatch h
  · obtain ⟨hreq, hquiet⟩ := reset h
    exact ⟨hreq, hack, hrty, hchk, hquiet⟩

theorem SpanLaw.of_quiet {s : State} (sync : SyncLaw s) (tenure : s.span.tenure = .quiet)
    (released : s.span.Released) (idle : s.live = true → s.pins.spdSince ≠ none → s.span.idleTimer = .held)
    (reset : s.pins.resetLow ≠ none → s.span.req = false) : SpanLaw s :=
  .of_released sync (fun _ _ _ h => nomatch tenure.symm.trans h) released
    (fun _ _ _ h => nomatch tenure.symm.trans h) (fun _ _ h => nomatch tenure.symm.trans h) idle
    fun h => ⟨reset h, tenure⟩

theorem SpanLaw.of_won {s : State} (live : s.live = true) (sync : SyncLaw s) {w : Station} {since : Time}
    {own : Option OwnFrame} (tenure : s.span.tenure = .won w since own) (synced : s.span.synced = true)
    (released : s.span.Released) (idle : s.pins.spdSince ≠ none → s.span.idleTimer = .held) : SpanLaw s :=
  .of_released sync (fun _ _ _ h => nomatch tenure.symm.trans h) released (fun _ _ _ _ => synced)
    (fun _ _ h => nomatch tenure.symm.trans h) (fun _ => idle) fun h => absurd (Option.isNone_iff_eq_none.1 live) h

theorem SpanLaw.of_frame {s : State} (live : s.live = true) (sync : SyncLaw s) {w : Option Station}
    {own : Option OwnFrame} (tenure : s.span.tenure = .frame w own) (synced : w ≠ none → s.span.synced = true)
    (released : s.span.Released) (held : s.span.idleTimer = .held) : SpanLaw s := by
  refine .of_released sync (fun _ _ _ h => nomatch tenure.symm.trans h) released
    (fun _ _ _ h => nomatch tenure.symm.trans h) (fun _ _ h => ⟨held, ?_⟩) (fun _ _ => held)
    fun h => absurd (Option.isNone_iff_eq_none.1 live) h
  obtain ⟨rfl, -⟩ := Tenure.frame.inj (tenure.symm.trans h)
  exact synced

theorem SpanLaw.of_window {s : State} (live : s.live = true) (sync : SyncLaw s) {w : Option Station}
    {own : Option OwnFrame} {heard : Option (List Byte)} (tenure : s.span.tenure = .window w own heard)
    (synced : w ≠ none → s.span.synced = true) (held : s.span.idleTimer = .held)
    (chk : s.span.chk = true → s.span.ack = false ∧ s.span.rty = false)
    (intruder : s.pins.spdSince ≠ none ↔ ∃ b, s.span.intruder = .driven b) : SpanLaw s := by
  refine ⟨sync.unsynced, sync.synced, fun _ _ _ h => (nomatch tenure.symm.trans h),
    fun _ _ h => (nomatch tenure.symm.trans h), fun _ _ _ h => ⟨held, ?_⟩, fun _ => ⟨_, _, _, tenure⟩,
    fun _ => ⟨_, _, _, tenure⟩, fun _ _ _ _ => intruder, fun _ _ => held, chk,
    fun h => absurd (Option.isNone_iff_eq_none.1 live) h⟩
  obtain ⟨rfl, -⟩ := Tenure.window.inj (tenure.symm.trans h)
  exact synced

/-! ### Work on the blocks, and the form of an event -/

/-- Only a synced station changes its station state (R119). -/
theorem State.Acts.formation_state {s t : State} (h : s.Acts t) (hs : s.span.synced = false) :
    t.formation.state = s.formation.state := by
  cases h with
  | formation fc h synced => exact synced.resolve_left fun h => nomatch hs.symm.trans h
  | takeReform sender epoch order synced => exact nomatch hs.symm.trans synced
  | deliver ahead => rw [s.deliverNotice_frame ahead]
  | _ => rfl

theorem State.Works.formation_state {s t : State} (h : s.Works t) (hs : s.span.synced = false) :
    t.formation.state = s.formation.state := by
  have hkeep := h.keeps (P := fun u => u.span.synced = false ∧ u.formation.state = s.formation.state)
    (fun u v hact hu => ⟨by rw [hact.frame.2.2.1]; exact hu.1, (hact.formation_state hu.1).trans hu.2⟩) ⟨hs, rfl⟩
  exact hkeep.2

theorem SyncLaw.of_eq {s t : State} (law : SyncLaw s) (span : t.span = s.span)
    (state : s.span.synced = false → t.formation.state = s.formation.state) : SyncLaw t := by
  obtain ⟨hunsynced, hsynced⟩ := law
  rw [← span] at hunsynced hsynced state
  refine ⟨fun h => ?_, hsynced⟩
  obtain ⟨hreq, hwinner, hlisten⟩ := hunsynced h
  exact ⟨hreq, hwinner, (state h).trans hlisten⟩

theorem SpanLaw.of_eq {s t : State} (law : SpanLaw s) (span : t.span = s.span) (pins : t.pins = s.pins)
    (state : s.span.synced = false → t.formation.state = s.formation.state) : SpanLaw t := by
  have hsync := law.sync.of_eq span state
  have hlive : t.live = s.live := by rw [State.live, State.live, pins]
  obtain ⟨-, -, hwon, hframe, hwindow, hlines, hintruder, hdriven, hidle, hchk, hreset⟩ := law
  refine ⟨hsync.unsynced, hsync.synced, ?_, ?_, ?_, ?_, ?_, ?_, ?_, ?_, ?_⟩ <;> simpa only [span, pins, hlive]

theorem SpanLaw.works {s t : State} (law : SpanLaw s) (h : s.Works t) : SpanLaw t :=
  law.of_eq h.span h.frame.2.1 h.formation_state

theorem SpanLaw.advance {s : State} (law : SpanLaw s) (t : Time) : SpanLaw (s.advance t) :=
  law.of_eq rfl rfl fun _ => rfl

theorem SpanLaw.refreshReq {s : State} (law : SpanLaw s) : SpanLaw s.refreshReq := by
  obtain ⟨hunsynced, hsynced, hwon, hframe, hwindow, hlines, hintruder, hdriven, hidle, hchk, hreset⟩ := law
  refine ⟨fun h => ?_, hsynced, hwon, hframe, hwindow, hlines, hintruder, hdriven, hidle, hchk, fun h => ?_⟩
  · obtain ⟨-, hwinner, hlisten⟩ := hunsynced h
    have hs : s.span.synced = false := h
    exact ⟨by simp [s.refreshReq_req, hs], hwinner, hlisten⟩
  · have hlive : s.live = false := by simpa [State.live, Option.isNone_eq_false_iff, Option.isSome_iff_ne_none] using h
    exact ⟨by simp [s.refreshReq_req, hlive], (hreset h).2⟩

theorem SpanLaw.followOn {s : State} (law : SpanLaw s) {f : State → State} (h : ∀ u : State, u.Works (f u)) :
    SpanLaw (s.followOn f) ∧ (s.followOn f).pins = s.pins := by
  have hworks := s.works_obeyLimits.trans (h s.obeyLimits)
  rw [State.followOn]
  split
  · exact ⟨(law.works hworks).refreshReq, hworks.frame.2.1⟩
  · exact ⟨law, rfl⟩

theorem SpanLaw.limitRow {s : State} (law : SpanLaw s) {f : State → State} (h : ∀ u : State, u.Works (f u)) :
    SpanLaw (s.limitRow f) := by
  rw [State.limitRow]
  split
  · exact (law.works (h s)).refreshReq
  · exact law

theorem SpanLaw.settle {s : State} (law : SpanLaw s) : SpanLaw s.settle ∧ s.settle.pins = s.pins := by
  refine State.settleFor_induct (P := fun u => SpanLaw u ∧ u.pins = s.pins) (fun u ⟨hlaw, hpins⟩ => ?_) _ s ⟨law, rfl⟩
  obtain ⟨hengine, hpins1⟩ := hlaw.followOn State.works_engineDue
  obtain ⟨hinbound, hpins2⟩ := hengine.followOn State.works_handleInbound
  obtain ⟨hnotice, hpins3⟩ := hinbound.followOn fun v => v.works_deliverNotice 0
  exact ⟨hnotice, hpins3.trans (hpins2.trans (hpins1.trans hpins))⟩

theorem SpanLaw.onEvent {s : State} (law : SpanLaw s) {f : State → State}
    (h : ∀ u : State, u.live = true → SpanLaw u → SpanLaw (f u)) : SpanLaw (s.onEvent f) := by
  obtain ⟨hsettled, hpins⟩ := law.settle
  rw [State.onEvent]
  split
  next hlive =>
    refine (h _ ?_ (hsettled.works (State.works_startEvent _))).refreshReq
    rw [State.live, State.startEvent_pins, hpins]
    exact hlive
  next => exact law

/-! ### Idle time and arbitration -/

theorem SyncLaw.becomeSynced {s : State} (h : s.span.lastWinner ≠ none) : SyncLaw s.becomeSynced :=
  ⟨nofun, fun _ => h⟩

theorem SpanLaw.idleExpires {s : State} (law : SpanLaw s) : SpanLaw s.idleExpires := by
  rw [State.idleExpires]
  split
  next since hrunning =>
    have hheld : s.span.idleTimer ≠ .held := by rw [hrunning]; nofun
    have hwindow : s.span.tenure.NoWindow := fun w own heard h => hheld (law.window_winner w own heard h).1
    have hframe (w own) : s.span.tenure ≠ .frame w own := fun h => hheld (law.frame_winner w own h).1
    have hidle (hlive : s.live = true) : s.pins.spdSince = none :=
      by_contra fun hdriven => hheld (law.idle_while_quiet hlive hdriven)
    have hlow (h : s.pins.resetLow ≠ none) := law.reset_releases h
    dsimp only
    split
    next hsynced =>
      exact .of_released ⟨fun h => (nomatch h.symm.trans hsynced), fun _ => nofun⟩ hwindow (law.released hwindow)
        law.won_synced (fun w own h => absurd h (hframe w own)) (fun hlive h => absurd (hidle hlive) h)
        fun h => ⟨(hlow h).1, (hlow h).2.2.2.2⟩
    next =>
      exact .of_released (.becomeSynced nofun) hwindow (law.released hwindow) (fun _ _ _ _ => rfl)
        (fun w own h => absurd h (hframe w own)) (fun hlive h => absurd (hidle hlive) h)
        fun h => ⟨(hlow h).1, (hlow h).2.2.2.2⟩
  next => exact law
  next => exact law

theorem SpanLaw.arbitrate {s : State} (law : SpanLaw s) (live : s.live = true) (req : StationSet) :
    SpanLaw (s.arbitrate req) := by
  rw [State.arbitrate]
  split
  next last hquiet hspd _ =>
    split
    next hsynced =>
      have hreleased : s.span.Released := law.released fun _ _ _ h => nomatch hquiet.symm.trans h
      have hsync : SyncLaw s := law.sync
      cases hwinner : roundRobin last (s.reqLines req) with
      | some w =>
        exact .of_won live ⟨hsync.unsynced, hsync.synced⟩ rfl hsynced hreleased fun h => absurd hspd h
      | none =>
        exact .of_quiet ⟨hsync.unsynced, hsync.synced⟩ rfl hreleased (fun _ h => absurd hspd h)
          fun h => (law.reset_releases h).1
    next => exact law
  next => exact law

theorem SpanLaw.endEmptyTenure {s : State} (law : SpanLaw s) : SpanLaw s.endEmptyTenure := by
  rw [State.endEmptyTenure]
  split
  next w since hwon hspd =>
    have hreleased : s.span.Released := law.released fun _ _ _ h => nomatch hwon.symm.trans h
    exact .of_quiet ⟨fun h => (nomatch h.symm.trans (law.won_synced _ _ _ hwon)), fun _ => nofun⟩ rfl hreleased
      (fun _ h => absurd hspd h) fun h => (law.reset_releases h).1
  next => exact law

/-! ### Frames -/

/-- SPD± begins to be driven where no window is open: nothing is quiet any more, or the frame is followed. -/
theorem SpanLaw.driveSpd_quiet {s : State} (law : SpanLaw s) (hwindow : s.span.tenure.NoWindow) :
    SpanLaw (s.driveSpd .quiet) :=
  .of_quiet ⟨law.unsynced_silent, law.synced_winner⟩ rfl (law.released hwindow) (fun _ _ => rfl)
    fun h => (law.reset_releases h).1

theorem SpanLaw.driveSpd_frame {s : State} (law : SpanLaw s) (live : s.live = true)
    (hwindow : s.span.tenure.NoWindow) {w : Option Station} {own : Option OwnFrame}
    (synced : w ≠ none → s.span.synced = true) : SpanLaw (s.driveSpd (.frame w own)) :=
  .of_frame live ⟨law.unsynced_silent, law.synced_winner⟩ rfl synced (law.released hwindow) rfl

theorem SpanLaw.beginFrame {s : State} (law : SpanLaw s) (live : s.live = true) (t : Time) (heard : Bool) :
    SpanLaw (s.beginFrame t heard) := by
  rw [State.beginFrame]
  split
  next => exact law
  next hspd =>
    split
    next w since own hwon =>
      have hwindow : s.span.tenure.NoWindow := fun _ _ _ h => nomatch hwon.symm.trans h
      exact (law.advance _).driveSpd_frame live hwindow fun _ => law.won_synced _ _ _ hwon
    next w since hwon =>
      have hwindow : s.span.tenure.NoWindow := fun _ _ _ h => nomatch hwon.symm.trans h
      have hsynced := law.won_synced _ _ _ hwon
      split
      · cases heard with
        | true => exact (law.advance _).driveSpd_frame live hwindow fun _ => hsynced
        | false =>
          exact .of_won live ⟨law.unsynced_silent, law.synced_winner⟩ rfl hsynced (law.released hwindow) fun _ => rfl
      · refine (law.endEmptyTenure.advance _).driveSpd_quiet ?_
        have hempty : (s.endEmptyTenure.advance t).span.tenure = .quiet := by
          rw [State.endEmptyTenure, hwon, hspd]
          rfl
        exact fun _ _ _ h => nomatch hempty.symm.trans h
    next hquiet =>
      have hwindow : s.span.tenure.NoWindow := fun _ _ _ h => nomatch hquiet.symm.trans h
      rw [State.startInQuiet]
      split
      · exact (law.advance _).driveSpd_frame live hwindow fun h => absurd rfl h
      · exact (law.advance _).driveSpd_quiet hwindow
    next => exact law
    next winner own bytes hopen =>
      obtain ⟨-, hsynced⟩ := law.window_winner _ _ _ hopen
      exact .of_window live ⟨law.unsynced_silent, law.synced_winner⟩ rfl hsynced rfl law.chk_alone
        ⟨fun _ => ⟨heard, rfl⟩, fun _ => nofun⟩

/-- A judgement drives CHK# alone, where no line was driven (R104). -/
theorem State.judgeFrame_chk {s : State} (h : s.span.Released) (winner : Option Station) (own : Option OwnFrame)
    (bs : List Byte) (hchk : (s.judgeFrame winner own bs).span.chk = true) :
    (s.judgeFrame winner own bs).span.ack = false ∧ (s.judgeFrame winner own bs).span.rty = false := by
  obtain ⟨hack, hrty, hoff, -⟩ := h
  have hanswer (f : Frame) : (s.answerFrame f).span.chk = false := by
    rw [State.answerFrame]
    split
    · split
      any_goals exact hoff
      all_goals split <;> exact hoff
    · exact hoff
  by_cases herror : checkError winner own bs = true
  · simp only [State.judgeFrame, herror, if_true]
    exact ⟨hack, hrty⟩
  · simp only [State.judgeFrame, herror] at hchk
    cases own with
    | some x => exact nomatch hoff.symm.trans hchk
    | none => exact nomatch (hanswer _).symm.trans hchk

/-- A judgement leaves all of the Span Interface but the response lines (R104). -/
theorem State.judgeFrame_keeps (s : State) (winner : Option Station) (own : Option OwnFrame) (bs : List Byte) :
    let t := s.judgeFrame winner own bs
    t.pins = s.pins ∧ t.formation = s.formation ∧ t.span.synced = s.span.synced ∧
      t.span.lastWinner = s.span.lastWinner ∧ t.span.idleTimer = s.span.idleTimer ∧
      t.span.intruder = s.span.intruder ∧ t.span.req = s.span.req := by
  rw [s.judgeFrame_frame winner own bs]
  exact ⟨rfl, rfl, rfl, rfl, rfl, rfl, rfl⟩

/-- The window that a judged frame opens. -/
theorem SpanLaw.judged {s : State} (live : s.live = true) (sync : SyncLaw s) (released : s.span.Released)
    (spd : s.pins.spdSince = none) {winner : Option Station} (synced : winner ≠ none → s.span.synced = true)
    (own : Option OwnFrame) (bs : List Byte) {x : SpanInterface}
    (hx : x = { (s.judgeFrame winner own bs).span with
      idleTimer := .held, tenure := .window winner own (some bs) }) :
    SpanLaw { s.judgeFrame winner own bs with span := x } := by
  subst hx
  have hchk := State.judgeFrame_chk released winner own bs
  obtain ⟨hpins, hformation, hsynced, hwinner, -, hintruder, hreq⟩ := s.judgeFrame_keeps winner own bs
  refine .of_window ?_ ⟨fun h => ?_, fun h => ?_⟩ rfl (fun h => hsynced.trans (synced h)) rfl hchk ?_
  · rw [State.live, hpins]
    exact live
  · obtain ⟨hreq', hwinner', hlisten⟩ := sync.unsynced (hsynced.symm.trans h)
    exact ⟨hreq.trans hreq', hwinner.trans hwinner', (congrArg FormationController.state hformation).trans hlisten⟩
  · rw [hwinner]
    exact sync.synced (hsynced.symm.trans h)
  · rw [hpins, spd, hintruder, released.2.2.2]
    simp

/-- The window after a frame that the station ignored. -/
theorem SpanLaw.openUnheard {s : State} (live : s.live = true) (sync : SyncLaw s) (released : s.span.Released)
    (spd : s.pins.spdSince = none) {winner : Option Station} (synced : winner ≠ none → s.span.synced = true) :
    SpanLaw (s.openUnheard winner) := by
  obtain ⟨-, -, hchk, hintruder⟩ := released
  refine .of_window live ⟨sync.unsynced, sync.synced⟩ rfl synced rfl (fun h => (nomatch h.symm.trans hchk)) ?_
  rw [State.openUnheard_pins, spd, State.openUnheard_span, hintruder]
  simp

theorem SpanLaw.hearFrame {s : State} (law : SpanLaw s) (live : s.live = true) (bs : List Byte) :
    SpanLaw (s.hearFrame bs) := by
  rw [State.hearFrame]
  split
  next winner own hframe =>
    obtain ⟨hheld, hsynced⟩ := law.frame_winner _ _ hframe
    have hreleased : s.span.Released := law.released fun _ _ _ h => nomatch hframe.symm.trans h
    split
    next begun _ =>
      refine SpanLaw.judged (s := s.releaseSpd begun bs.length) live ⟨law.unsynced_silent, law.synced_winner⟩ hreleased
        rfl hsynced own bs ?_
      obtain ⟨-, -, -, -, hidle, -⟩ := (s.releaseSpd begun bs.length).judgeFrame_keeps winner own bs
      rw [← hidle.trans hheld]
    next => exact law
  next w since hwon =>
    exact SpanLaw.openUnheard (s := s.releaseSpd _ _) live ⟨law.unsynced_silent, law.synced_winner⟩
      (law.released fun _ _ _ h => nomatch hwon.symm.trans h) rfl fun _ => law.won_synced _ _ _ hwon
  next => exact law
  next hquiet =>
    exact SpanLaw.openUnheard (s := s.releaseSpd _ _) live ⟨law.unsynced_silent, law.synced_winner⟩
      (law.released fun _ _ _ h => nomatch hquiet.symm.trans h) rfl fun h => absurd rfl h
  next winner own heard hopen =>
    obtain ⟨hheld, hsynced⟩ := law.window_winner _ _ _ hopen
    refine .of_window live ⟨law.unsynced_silent, law.synced_winner⟩ hopen hsynced hheld law.chk_alone ?_
    simp [State.releaseIntruder]

/-! ### The close of a window -/

/-- Everything released, SPD± as it stands: the law but for SPD± driven. -/
structure ClosedLaw (s : State) : Prop where
  live : s.live = true
  sync : SyncLaw s
  tenure : s.span.tenure = .quiet
  released : s.span.Released

theorem ClosedLaw.works {s t : State} (law : ClosedLaw s) (h : s.Works t) : ClosedLaw t := by
  obtain ⟨hlive, hsync, htenure, hreleased⟩ := law
  refine ⟨?_, hsync.of_eq h.span h.formation_state, by rw [h.span, htenure], by rwa [h.span]⟩
  rw [State.live, h.frame.2.1]
  exact hlive

theorem SpanLaw.endWindow {s : State} (law : SpanLaw s) (live : s.live = true) : ClosedLaw s.endWindow :=
  ⟨live, ⟨law.unsynced_silent, law.synced_winner⟩, rfl, rfl, rfl, rfl, rfl⟩

theorem ClosedLaw.setWinner {s : State} (law : ClosedLaw s) (winner : Option Station)
    (heard : Option (List Byte)) :
    ClosedLaw (s.setWinner winner heard) ∧ (s.setWinner winner heard).pins = s.pins := by
  have hkeep : ClosedLaw (s.keepWinner winner) ∧ (s.keepWinner winner).pins = s.pins := by
    rw [State.keepWinner.eq_def]
    split
    · split
      next hsynced =>
        exact ⟨⟨law.live, ⟨fun h => (nomatch h.symm.trans hsynced), fun _ => nofun⟩, law.tenure, law.released⟩, rfl⟩
      next => exact ⟨law, rfl⟩
    · exact ⟨law, rfl⟩
  rw [State.setWinner.eq_def]
  split
  next bs =>
    split
    · dsimp only
      split
      next hsynced =>
        exact ⟨⟨law.live, ⟨fun h => (nomatch h.symm.trans hsynced), fun _ => nofun⟩, law.tenure, law.released⟩, rfl⟩
      next => exact ⟨⟨law.live, .becomeSynced nofun, law.tenure, law.released⟩, rfl⟩
    · exact hkeep
  next => exact hkeep

/-- SPD± driven inside the window is followed from its close (notes/assumptions/29.md). -/
theorem ClosedLaw.followIntruder {s : State} (law : ClosedLaw s) {x : Intrusion}
    (h : s.pins.spdSince ≠ none ↔ ∃ b, x = .driven b) : SpanLaw (s.followIntruder x) := by
  obtain ⟨hlive, hsync, htenure, hreleased⟩ := law
  have hlow : s.pins.resetLow = none := Option.isNone_iff_eq_none.1 hlive
  match x with
  | .absent =>
    exact .of_quiet hsync htenure hreleased (fun _ hspd => by obtain ⟨b, hb⟩ := h.1 hspd; exact nomatch hb)
      fun h => absurd hlow h
  | .driven true => exact .of_frame hlive ⟨hsync.unsynced, hsync.synced⟩ rfl (fun h => absurd rfl h) hreleased rfl
  | .driven false =>
    exact .of_quiet ⟨hsync.unsynced, hsync.synced⟩ rfl hreleased (fun _ _ => rfl) fun h => absurd hlow h
  | .released t none =>
    refine SpanLaw.openUnheard (s := { s with pins := { s.pins with spdReleased := t } }) hlive
      ⟨hsync.unsynced, hsync.synced⟩ hreleased ?_ fun h => absurd rfl h
    exact by_contra fun hspd => by obtain ⟨b, hb⟩ := h.1 hspd; exact nomatch hb
  | .released t (some bs) =>
    refine SpanLaw.judged (s := { s with pins := { s.pins with spdReleased := t } }) hlive
      ⟨hsync.unsynced, hsync.synced⟩ hreleased ?_ (fun h => absurd rfl h) none bs rfl
    exact by_contra fun hspd => by obtain ⟨b, hb⟩ := h.1 hspd; exact nomatch hb

theorem SpanLaw.closeWindow {s : State} (law : SpanLaw s) (live : s.live = true) (ack rty chk : Bool)
    (order : List Nat) : SpanLaw (s.closeWindow ack rty chk order) := by
  rw [State.closeWindow]
  split
  next winner own heard hopen =>
    have hdriven := law.intruder_driven _ _ _ hopen
    obtain ⟨hclosed, hpins⟩ := (law.endWindow live).setWinner winner heard
    cases heard with
    | none => exact hclosed.followIntruder (by rw [hpins]; exact hdriven)
    | some bs =>
      have hworks := State.works_closeHeard (s := s.endWindow.setWinner winner (some bs)) own bs
        (s.readLines ack rty chk) order (State.setWinner_synced _ winner)
      exact (hclosed.works hworks).followIntruder (by rw [hworks.frame.2.1, hpins]; exact hdriven)
  next hquiet =>
    split
    next hspd =>
      split
      · exact (law.endWindow live).followIntruder (x := .absent) ⟨fun h => absurd hspd h, nofun⟩
      · exact law
    next => exact law
  next => exact law
  next => exact law

/-! ### Every command -/

theorem SpanLaw.assertReset {s : State} (law : SpanLaw s) (t : Time) : SpanLaw (s.assertReset t) :=
  .of_quiet ⟨fun h => ⟨rfl, (law.unsynced_silent h).2⟩, law.synced_winner⟩ rfl ⟨rfl, rfl, rfl, rfl⟩ nofun
    fun _ => rfl

/-- In reset the level of SPD± is followed, and nothing else (R116; notes/assumptions/19.md). -/
theorem SpanLaw.spdInReset {s : State} (law : SpanLaw s) (h : s.live = false) {t : State} (span : t.span = s.span)
    (low : t.pins.resetLow = s.pins.resetLow) (formation : t.formation = s.formation) : SpanLaw t := by
  have hlow : s.pins.resetLow ≠ none := by
    simpa [State.live, Option.isNone_eq_false_iff, Option.isSome_iff_ne_none] using h
  obtain ⟨hreq, hack, hrty, hchk, hquiet⟩ := law.reset_releases hlow
  have htenure : t.span.tenure = .quiet := by rw [span, hquiet]
  refine .of_quiet (law.sync.of_eq span fun _ => by rw [formation]) htenure ?_ (fun hlive => ?_) fun _ => by rw [span, hreq]
  · rw [span]
    exact law.released fun _ _ _ h => nomatch hquiet.symm.trans h
  · rw [State.live, low] at hlive
    exact nomatch h.symm.trans hlive

/-- What an SPI transaction does at its end, after the clock came there. -/
theorem State.works_transaction (s : State) (spi : Reading) (code : Option Byte) (received : List Byte) :
    (s.advance spi.rose).Works (s.transaction spi.toTransaction fun s => s.serveCode spi code received) := by
  refine State.Works.trans ?_ (State.Acts.port _ _ rfl rfl le_rfl).works
  split
  · exact State.works_port _ rfl rfl le_rfl
  · exact State.works_serveCode _ _ _ _

theorem SpanLaw.spiEnds {s : State} (law : SpanLaw s) (spi : Reading) (code : Option Byte) (received : List Byte) :
    SpanLaw (s.spiEnds spi code received) :=
  law.onEvent fun u _ hu => (hu.advance spi.rose).works (u.works_transaction spi code received)

theorem SpanLaw.atTimer {s t : State} (law : SpanLaw s) {u : Time} (h : (s.advance u).Works t) : SpanLaw t :=
  (law.advance u).works h

theorem SpanLaw.timers {s : State} (law : SpanLaw s) (i : Fin 8) :
    SpanLaw s.closeExpires ∧ SpanLaw s.recloseExpires ∧ SpanLaw (s.readyAt i) ∧ SpanLaw (s.expireAt i) := by
  refine ⟨?_, ?_, ?_, ?_⟩
  · rw [State.closeExpires]
    split
    · exact law.atTimer (State.Acts.formation _ (.closeExpires _) (.inr rfl)).works
    · exact law
  · rw [State.recloseExpires]
    split
    · exact law.atTimer (State.Acts.formation _ (.stopReclose _) (.inr rfl)).works
    · exact law
  · rw [State.readyAt]
    split
    · split
      · exact law.advance _
      · exact law
    · exact law
  · rw [State.expireAt]
    split
    · exact law.atTimer (State.works_deadlineAt _ i)
    · exact law

theorem SpanLaw.of_reset (now : Time) (straps : Station) (spd : Option Time) (released : Time) (q : List Instr) :
    SpanLaw (.afterReset now straps spd released q) := by
  refine .of_quiet ⟨fun _ => ⟨rfl, rfl, rfl⟩, nofun⟩ rfl ⟨rfl, rfl, rfl, rfl⟩ (fun _ h => ?_) fun h => absurd rfl h
  exact if_pos (Option.isSome_iff_ne_none.2 h)

theorem SpanLaw.exec {s t : State} (law : SpanLaw s) {c : Instr} (h : exec c s = .next t) : SpanLaw t := by
  have hhead (kind : CommandKind) := (law.followOn fun u => u.works_atHead_serve kind).1
  cases c with
  | hardResetRelease u straps =>
    cases hlow : s.pins.resetLow with
    | none =>
      rw [exec_hardResetRelease_of_high hlow] at h
      obtain rfl : s = t := Host.Outcome.next.inj h
      exact law
    | some since =>
      rw [exec_hardResetRelease_of_low hlow] at h
      split at h
      · exact nomatch h
      · obtain rfl := Host.Outcome.next.inj h
        exact .of_reset ..
  | hardResetAssert u =>
    obtain rfl := Host.Outcome.next.inj h
    split
    · exact law.assertReset u
    · exact law
  | putShort | putLong | pop | stat | spiUnknownCode => exact Host.Outcome.next.inj h ▸ law.spiEnds _ _ _
  | badCommand => exact Host.Outcome.next.inj h ▸ (law.followOn State.works_badAtHead).1
  | read => exact Host.Outcome.next.inj h ▸ hhead .read
  | write => exact Host.Outcome.next.inj h ▸ hhead .write
  | swap => exact Host.Outcome.next.inj h ▸ hhead .swap
  | add => exact Host.Outcome.next.inj h ▸ hhead .add
  | delete => exact Host.Outcome.next.inj h ▸ hhead .delete
  | reserve => exact Host.Outcome.next.inj h ▸ hhead .reserve
  | commit => exact Host.Outcome.next.inj h ▸ hhead .commit
  | release => exact Host.Outcome.next.inj h ▸ hhead .release
  | fence => exact Host.Outcome.next.inj h ▸ hhead .fence
  | watch => exact Host.Outcome.next.inj h ▸ hhead .watch
  | unwatch => exact Host.Outcome.next.inj h ▸ hhead .unwatch
  | drop => exact Host.Outcome.next.inj h ▸ hhead .drop
  | reform => exact Host.Outcome.next.inj h ▸ (law.followOn State.works_reformAtHead).1
  | idleTimeout => exact Host.Outcome.next.inj h ▸ law.onEvent fun _ _ hu => hu.idleExpires
  | arbitrationPoint u req =>
    exact Host.Outcome.next.inj h ▸ law.onEvent fun _ hlive hu => (hu.advance u).arbitrate hlive req
  | frameStart start =>
    obtain rfl := Host.Outcome.next.inj h
    split
    · exact law.onEvent fun _ hlive hu => hu.beginFrame hlive _ _
    next hlive => exact law.spdInReset (Bool.not_eq_true _ ▸ hlive) rfl rfl rfl
  | emptyTenureEnd => exact Host.Outcome.next.inj h ▸ law.onEvent fun _ _ hu => hu.endEmptyTenure
  | frameHeard bytes =>
    obtain rfl := Host.Outcome.next.inj h
    split
    · exact law.onEvent fun _ hlive hu => hu.hearFrame hlive bytes
    next hlive => exact law.spdInReset (Bool.not_eq_true _ ▸ hlive) rfl rfl rfl
  | responseWindowClose ack rty chk order =>
    exact Host.Outcome.next.inj h ▸ law.onEvent fun _ hlive hu => hu.closeWindow hlive ack rty chk order
  | outboundDiscard => exact Host.Outcome.next.inj h ▸ law.limitRow State.works_discardHead
  | publishDropped => exact Host.Outcome.next.inj h ▸ law.limitRow State.works_dropPublish
  | retryLimit i => exact Host.Outcome.next.inj h ▸ law.limitRow fun u => u.works_retryLimitAt i
  | attemptLimit i => exact Host.Outcome.next.inj h ▸ law.limitRow fun u => u.works_attemptLimitAt i
  | readyTime i => exact Host.Outcome.next.inj h ▸ law.onEvent fun _ _ hu => (hu.timers i).2.2.1
  | deadlineExpiry i => exact Host.Outcome.next.inj h ▸ law.onEvent fun _ _ hu => (hu.timers i).2.2.2
  | memberSilent st order => exact Host.Outcome.next.inj h ▸ law.limitRow fun u => u.works_memberSilentAt st order
  | closeTimerExpiry => exact Host.Outcome.next.inj h ▸ law.onEvent fun _ _ hu => (hu.timers 0).1
  | recloseTimerExpiry => exact Host.Outcome.next.inj h ▸ law.onEvent fun _ _ hu => (hu.timers 0).2.1
  | inboundFetchHandled => exact Host.Outcome.next.inj h ▸ (law.followOn State.works_handleFetch).1
  | inboundUpdateHandled => exact Host.Outcome.next.inj h ▸ (law.followOn State.works_handleUpdate).1
  | noticeDelivery ahead => exact Host.Outcome.next.inj h ▸ (law.followOn fun u => u.works_deliverNotice ahead).1

/-- Settles O14. -/
theorem everyStepKeepsSpanLaw : Obligations.EveryStepKeepsSpanLaw := by
  intro s t law h
  rw [step] at h
  split at h
  · obtain rfl : s = t := Host.Outcome.next.inj h
    exact law
  next c rest hq => exact SpanLaw.exec (s := { s with pending := rest }) (law.of_eq rfl rfl fun _ => rfl) h

end Sys2Proof.Machine
end

section
/-! PROOFS. The head of the command queue: the tests of R139 in their order, and the commands that pass them. -/

namespace Sys2Proof.Machine

/-! ### The tests of the head -/

/-- A well-formed command other than REFORM goes through steps 3 to 7 of R139. -/
theorem exec_row_of_wellFormed {s : State} {kind : CommandKind} {c : CommandRecord} (h : s.atHeadOf kind c)
    (hform : formError kind c = none) (hkind : kind ≠ .reform) :
    exec kind.row s = .next (s.testHead kind c (kind.serve c)).refreshReq := by
  obtain ⟨hready, hhead, hcode⟩ := h
  rw [exec_row kind hkind, State.followOn_of_ready hready]
  simp [State.atHead, State.head, CommandRecord.command, hhead, hcode, hform]

theorem exec_row_of_reachesStep8 {s : State} {kind : CommandKind} {c : CommandRecord} (h : s.reachesStep8 kind c)
    (hkind : kind ≠ .reform) : exec kind.row s = .next (kind.serve c s).refreshReq := by
  rw [exec_row kind hkind, State.followOn_of_ready h.1.1, State.atHead_of_reachesStep8 h]

theorem State.waitHead_of_not_fence (s : State) {kind : CommandKind} (h : kind ≠ .fence) :
    s.waitHead kind = { s with engine := { headStatus := .waiting, fenceWait := false } } := by
  rw [State.waitHead, beq_false_of_ne h]

theorem State.plainCompletion_eq (s : State) (kind : CommandKind) (c : CommandRecord) (o : CmdOutcome) (v : Version) :
    s.plainCompletion kind c o v = plainRecord c (s.completionKey kind c) o v := rfl

/-- Settles O20. -/
theorem stationStateDecidesTheHead : Obligations.StationStateDecidesTheHead := by
  intro s kind c hhead hform hkind
  rw [exec_row_of_wellFormed hhead hform hkind]
  refine ⟨fun hexcluded => ?_, fun hforming => ?_⟩
  · simp only [State.testHead, hexcluded]
    rfl
  · rcases hforming with h | h <;> simp only [State.testHead, h] <;> rfl

/-- A blocked head waits at a MEMBER (R144). -/
theorem exec_row_of_blocked {s : State} {kind : CommandKind} {c : CommandRecord} (h : s.atHeadOf kind c)
    (hform : formError kind c = none) (hkind : kind ≠ .reform) (hmember : s.formation.state = .member)
    (hblocked : s.headBlocked kind c = true) : exec kind.row s = .next (s.waitHead kind).refreshReq := by
  rw [exec_row_of_wellFormed h hform hkind]
  simp only [State.testHead, hmember, hblocked, if_true]

theorem CommandRecord.slotIndex_eq {c : CommandRecord} (h : c.slot.toNat < 4) : c.slotIndex = some ⟨c.slot.toNat, h⟩ :=
  dif_pos h

theorem CommandRecord.slotIndex_of_eq {c : CommandRecord} {n : Fin 4} (h : c.slot.toNat = n.val) :
    c.slotIndex = some n := by
  rw [CommandRecord.slotIndex_eq (h ▸ n.isLt)]
  exact congrArg some (Fin.ext h)

/-- A head whose key has a pending entry is blocked (R144). -/
theorem State.headBlocked_of_key {s : State} {kind : CommandKind} {c : CommandRecord} {k : Key}
    (hk : k ∈ s.headKeys kind c) (hpending : s.tracker.keyPending k = true) : s.headBlocked kind c = true := by
  rw [State.headBlocked, Bool.or_eq_true]
  exact .inl (List.any_eq_true.2 ⟨k, hk, hpending⟩)

/-- A head whose slot a pending entry names is blocked (R144). -/
theorem State.headBlocked_of_slot {s : State} {kind : CommandKind} {c : CommandRecord} {n : Fin 4}
    (hkind : kind.readsSlot = true) (hn : c.slotIndex = some n) (hbusy : s.tracker.slotBusy n = true) :
    s.headBlocked kind c = true := by
  rw [State.headBlocked, hkind, hn, Option.any_some, hbusy]
  exact Bool.or_true _

theorem State.key_mem_headKeys (s : State) {kind : CommandKind} (h : kind.readsKey = true) (c : CommandRecord) :
    c.key ∈ s.headKeys kind c := by
  cases kind with
  | commit | release | fence | reform => exact nomatch h
  | read | write | swap | add | delete | reserve | watch | unwatch | drop => exact List.mem_cons_self

theorem State.slotKey_mem_headKeys (s : State) {kind : CommandKind} (h : kind.readsSlot = true) {c : CommandRecord}
    {n : Fin 4} (hn : c.slotIndex = some n) : s.slots[n].key ∈ s.headKeys kind c := by
  have hkey : s.slots[n].key ∈ (s.slotKey c).toList := by simp [State.slotKey, hn]
  cases kind with
  | reserve => exact List.mem_cons_of_mem _ hkey
  | commit | release => exact hkey
  | read | write | swap | add | delete | fence | watch | unwatch | drop | reform => exact nomatch h

/-- Settles O21: the entry makes its key pending or its slot busy, and so blocks the head. -/
theorem headWaitsForItsKeyAndSlot : Obligations.HeadWaitsForItsKeyAndSlot := by
  intro s kind c i e hhead hform hmember he hnamed
  have hblocked : kind ≠ .reform ∧ kind ≠ .fence ∧ s.headBlocked kind c = true := by
    rcases hnamed with ⟨hkind, hkey⟩ | ⟨hkind, hslot, hnamed⟩
    · refine ⟨fun h => hkind (by simp [h]), fun h => hkind (by simp [h]), ?_⟩
      exact State.headBlocked_of_key (s.key_mem_headKeys ((CommandKind.readsKey_iff kind).2 hkind) c)
        ((s.tracker.keyPending_iff _).2 ⟨i, e, he, hkey⟩)
    · have hreads := (CommandKind.readsSlot_iff kind).2 hkind
      have hindex := CommandRecord.slotIndex_eq hslot
      refine ⟨fun h => ?_, fun h => ?_, ?_⟩
      · simp [h] at hkind
      · simp [h] at hkind
      rcases hnamed with hkey | hbusy
      · exact State.headBlocked_of_key (s.slotKey_mem_headKeys hreads hindex)
          ((s.tracker.keyPending_iff _).2 ⟨i, e, he, hkey⟩)
      · exact State.headBlocked_of_slot hreads hindex ((s.tracker.slotBusy_iff _).2 ⟨i, e, he, hbusy⟩)
  obtain ⟨hreform, hfence, hblocked⟩ := hblocked
  rw [exec_row_of_blocked hhead hform hreform hmember hblocked, s.waitHead_of_not_fence hfence]

/-- Settles O22: step 7 finds the home down, and the head completes. -/
theorem departedHomeCompletesHomeDown : Obligations.DepartedHomeCompletesHomeDown := by
  intro s kind c m hhead hform hmember hfree hkind hhome hdown done
  have hneeds : kind.needsHome = true := by
    simp only [List.mem_cons, List.not_mem_nil, or_false] at hkind
    rcases hkind with rfl | rfl | rfl | rfl | rfl | rfl <;> rfl
  have hkey : s.completionKey kind c = c.key := by
    cases kind with
    | commit | release | fence | reform => exact nomatch hneeds
    | read | write | swap | add | delete | reserve | watch | unwatch | drop => rfl
  have hhomeDown : s.homeIsDown kind c = true := by
    simp [State.homeIsDown, hneeds, hhome, hdown]
  have hexec := exec_row_of_wellFormed hhead hform (kind := kind) (by rintro rfl; exact nomatch hneeds)
  simp only [State.testHead, hmember, hfree, hhomeDown, if_true] at hexec
  refine ⟨fun hreserve => ?_, fun n hreserve hslot => ?_⟩
  · rw [hexec]
    cases kind with
    | reserve => exact absurd rfl hreserve
    | _ => exact congrArg (fun k => Host.Outcome.next (s.finishHead (plainRecord c k .homeDown 0)).refreshReq) hkey
  · subst hreserve
    rw [hexec, CommandRecord.slotIndex_of_eq hslot]
    rfl

/-- Settles O27: a FENCE acts on no key, no slot and no home, so it comes to step 8. -/
theorem fenceWaitsForThePendingTable : Obligations.FenceWaitsForThePendingTable := by
  intro s c hhead hform hmember
  have hexec : exec .fence s = .next (s.serveFence c).refreshReq := by
    have htest : s.testHead .fence c (State.serveFence c) = s.serveFence c := by
      simp [State.testHead, hmember, State.headBlocked, State.headKeys, CommandKind.readsSlot, State.homeIsDown,
        CommandKind.needsHome]
    exact htest ▸ exec_row_of_wellFormed hhead hform nofun
  rw [hexec, State.serveFence]
  refine ⟨fun hempty => ?_, fun ⟨i, e, he⟩ => ?_⟩
  · rw [if_pos (s.tracker.isEmpty_iff.2 hempty)]
    rfl
  · rw [if_neg fun hempty => nomatch (s.tracker.isEmpty_iff.1 hempty i).symm.trans he]
    rfl

/-- Settles O30. -/
theorem reformIsHandedOver : Obligations.ReformIsHandedOver := by
  intro s c hhead hform
  obtain ⟨hready, hcommands, hcode⟩ := hhead
  have hexec : exec .reform s = .next (s.handOverReform c).refreshReq := by
    change Host.Outcome.next (s.followOn State.reformAtHead) = _
    rw [State.followOn_of_ready hready]
    simp [State.reformAtHead, State.head, CommandRecord.command, hcommands, hcode, hform]
  rw [hexec, State.handOverReform, State.leaveHead]
  simp only [List.isEmpty_iff]
  cases s.formation.reform <;> rfl

/-! ### RESERVE at step 8 -/

theorem CopyTable.validRecord_of_valid {t : CopyTable} {k : Key} {e : CopyEntry} (h : t.entry k = some e)
    (hv : e.state = .valid) : t.validRecord k = some e.record := by
  simp [CopyTable.validRecord, h, hv]

theorem CopyTable.validRecord_of_none {t : CopyTable} {k : Key} (h : t.entry k = none) : t.validRecord k = none := by
  simp [CopyTable.validRecord, h]

/-- Settles O24, by the cases of `State.serveReserve`. -/
theorem reserveObtainsItsRecord : Obligations.ReserveObtainsItsRecord := by
  intro s c n hreach hslot completion held waiting
  have hindex : c.slotIndex = some n := CommandRecord.slotIndex_of_eq hslot
  have hexec : exec .reserve s = .next (s.serveReserve c).refreshReq := exec_row_of_reachesStep8 hreach nofun
  have hwait : s.waitHead .reserve = waiting := rfl
  rw [hexec]
  refine ⟨fun hown hpub => ?_, fun hown hpub => ?_, fun e hown hentry hvalid => ?_,
    fun m i hown hentry hhome hi => ?_, fun hown hentry hfull => ?_⟩
  · simp only [State.serveReserve, hindex, hown, hpub]
    rfl
  · simp only [State.serveReserve, hindex, hown, hpub]
    rfl
  · simp only [State.serveReserve, hindex, hown, CopyTable.validRecord_of_valid hentry hvalid]
    rfl
  · have hcopies : s.copies.atFetch c.key false = s.copies.claimKey c.key := by
      simp [CopyTable.atFetch_eq, hentry]
    simp only [State.serveReserve, hindex, hown, CopyTable.validRecord_of_none hentry, State.serveFetch, hi,
      State.dispatchFetch, State.newEntry_eq hhome, hcopies]
    rfl
  · simp only [State.serveReserve, hindex, hown, CopyTable.validRecord_of_none hentry, State.serveFetch, hfull]
    rfl

/-! ### The updates at step 8 -/

/-- The new entry of a key whose home this station is (R77). -/
theorem State.newEntry_of_ownHome {s : State} {k : Key} (h : s.ownHome k = true) (kind : EntryKind)
    (c : CommandRecord) (command : CommandKind) (slot : Option (Fin 4)) (u : Option Update) :
    s.newEntry kind c command k slot u = freshEntry kind k s.pins.station command c slot u s.clock := by
  simp only [State.ownHome, Bool.and_eq_true, Option.any_eq_true, beq_iff_eq] at h
  obtain ⟨-, m, hhome, hstation⟩ := h
  rw [State.newEntry_eq hhome, hstation]

/-- The head once an update of the slot's or the command's key is dispatched to a remote home (R148). -/
theorem State.serveUpdate_remote {s : State} {k : Key} {m : Member} {i : Fin 8} (hi : s.tracker.freeIndex = some i)
    (hown : s.ownHome k = false) (hhome : s.formation.homeOf k = some m) (c : CommandRecord) (command : CommandKind)
    (slot : Option (Fin 4)) (u : Update) :
    s.serveUpdate c command k slot u = ({ s with
      slots := s.committingSlots slot
      tracker := s.tracker.allocate i (freshEntry .update k m.station command c slot (some u) s.clock) } :
        State).leaveHead := by
  rw [← State.newEntry_eq hhome]
  simp only [State.serveUpdate, hi, hown]
  cases slot <;> rfl

/-- The head once an update of an own-home key gets its LOCAL entry (R20, R149). -/
theorem State.serveUpdate_local {s : State} {k : Key} {i : Fin 8} (hi : s.tracker.freeIndex = some i)
    (hown : s.ownHome k = true) (hroom : s.home.hasInboundPlace = true) (c : CommandRecord) (command : CommandKind)
    (slot : Option (Fin 4)) (u : Update) :
    s.serveUpdate c command k slot u = ({ s with
      slots := s.committingSlots slot
      tracker := s.tracker.allocate i (freshEntry .own k s.pins.station command c slot none s.clock)
      home := { s.home with inbound := s.home.inbound ++ [s.localRequest i k u] } } : State).leaveHead := by
  rw [← State.newEntry_of_ownHome hown]
  simp only [State.serveUpdate, hi, hown, hroom]
  cases slot <;> rfl

/-- Without a free entry, or a free inbound place for a LOCAL one, an update waits (R20, R148, R149). -/
theorem State.serveUpdate_waits {s : State} {k : Key}
    (h : s.tracker.freeIndex = none ∨ (s.ownHome k = true ∧ s.home.hasInboundPlace = false)) (c : CommandRecord)
    (command : CommandKind) (slot : Option (Fin 4)) (u : Update) :
    s.serveUpdate c command k slot u = s.waitHead command := by
  cases hi : s.tracker.freeIndex with
  | none => simp only [State.serveUpdate, hi]
  | some i =>
    obtain ⟨hown, hroom⟩ := h.resolve_left (by simp [hi])
    simp only [State.serveUpdate, hi, hown, hroom]
    rfl

theorem HomeEngine.hasInboundPlace_eq_false_iff (h : HomeEngine) :
    h.hasInboundPlace = false ↔ 8 ≤ h.inbound.length + (if h.heldPlace = true then 1 else 0) := by
  rw [← Bool.not_eq_true, HomeEngine.hasInboundPlace_iff, Nat.not_lt]

/-- The four updates at step 8 (R148, R149). -/
theorem CommandKind.serve_of_updateOf {kind : CommandKind} {c : CommandRecord} {u : Update}
    (h : updateOf c kind = some u) (s : State) :
    kind.serve c s = s.serveUpdate c kind c.key none u ∧ kind ≠ .reform ∧ kind ≠ .fence := by
  cases kind with
  | write | swap | add | delete =>
    obtain rfl := Option.some.inj h
    exact ⟨rfl, nofun, nofun⟩
  | read | reserve | commit | release | fence | watch | unwatch | drop | reform => exact nomatch h

/-- Settles O25. -/
theorem updateIsDispatchedRemoteOrLocal : Obligations.UpdateIsDispatchedRemoteOrLocal := by
  constructor
  · intro s kind c u m hreach hu hown hhome
    obtain ⟨hserve, hreform, hfence⟩ := CommandKind.serve_of_updateOf hu s
    rw [exec_row_of_reachesStep8 hreach hreform, hserve]
    refine ⟨fun i hi => ?_, fun hfull => ?_⟩
    · rw [State.serveUpdate_remote hi hown hhome]
      rfl
    · rw [State.serveUpdate_waits (.inl hfull), s.waitHead_of_not_fence hfence]
  · intro s kind c u hreach hu hown places
    obtain ⟨hserve, hreform, hfence⟩ := CommandKind.serve_of_updateOf hu s
    rw [exec_row_of_reachesStep8 hreach hreform, hserve]
    refine ⟨fun i hi hroom => ?_, fun hwait => ?_⟩
    · rw [State.serveUpdate_local hi hown ((HomeEngine.hasInboundPlace_iff _).2 hroom)]
      rfl
    · have hwaits := hwait.imp_right fun hfull => And.intro hown ((HomeEngine.hasInboundPlace_eq_false_iff _).2 hfull)
      rw [State.serveUpdate_waits hwaits, s.waitHead_of_not_fence hfence]

/-! ### COMMIT and RELEASE at step 8 -/

/-- A COMMIT of a HELD slot is a SWAP of the slot's key at the slot's version (R68). -/
theorem State.serveCommit_of_held {s : State} {c : CommandRecord} {n : Fin 4} (hn : c.slotIndex = some n)
    (h : s.slots[n].state = .held) :
    s.serveCommit c = s.serveUpdate c .commit s.slots[n].key (some n)
      { op := .swap, expected := s.slots[n].version, wordIndex := 0, value := c.value } := by
  simp only [State.serveCommit, hn, h]
  rfl

theorem State.completionKey_of_slot {s : State} {kind : CommandKind} (h : kind = .commit ∨ kind = .release)
    {c : CommandRecord} {n : Fin 4} (hn : c.slotIndex = some n) : s.completionKey kind c = s.slots[n].key := by
  rcases h with rfl | rfl <;> simp [State.completionKey, State.slotKey, hn]

/-- Emptying its slot leaves the key of a COMMIT's or RELEASE's completion. -/
theorem State.finishPlain_emptySlot {s : State} {kind : CommandKind} (h : kind = .commit ∨ kind = .release)
    {c : CommandRecord} {n : Fin 4} (hn : c.slotIndex = some n) (o : CmdOutcome) (v : Version) :
    (s.emptySlot n).finishPlain kind c o v =
      (s.emptySlot n).finishHead (plainRecord c s.slots[n].key o v) := by
  have hkey : (s.emptySlot n).completionKey kind c = s.slots[n].key := by
    rw [State.completionKey_of_slot h hn, State.emptySlot_slots, getElem_set_fin, if_pos rfl]
  rw [State.finishPlain, State.plainCompletion_eq, hkey]

/-- Settles O26. -/
theorem commitAndReleaseAreJudgedByTheSlot : Obligations.CommitAndReleaseAreJudgedByTheSlot := by
  constructor
  · intro s c n hreach hslot key u committing waiting places
    have hindex : c.slotIndex = some n := CommandRecord.slotIndex_of_eq hslot
    have hexec : exec .commit s = .next (s.serveCommit c).refreshReq := exec_row_of_reachesStep8 hreach nofun
    rw [hexec]
    refine ⟨fun hempty => ?_, fun hlost => ?_, fun m i hheld hown hhome hi => ?_, fun i hheld hown hi hroom => ?_,
      fun hheld hwait => ?_⟩
    · simp only [State.serveCommit, hindex, hempty, State.finishPlain, State.plainCompletion_eq,
        State.completionKey_of_slot (.inl rfl) hindex]
      rfl
    · simp only [State.serveCommit, hindex, hlost, State.finishPlain_emptySlot (.inl rfl) hindex]
      rfl
    · rw [State.serveCommit_of_held hindex hheld, State.serveUpdate_remote hi hown hhome]
      rfl
    · rw [State.serveCommit_of_held hindex hheld,
        State.serveUpdate_local hi hown ((HomeEngine.hasInboundPlace_iff _).2 hroom)]
      rfl
    · rw [State.serveCommit_of_held hindex hheld, State.serveUpdate_waits]
      · rfl
      · exact hwait.imp_right fun ⟨hown, hfull⟩ => ⟨hown, (HomeEngine.hasInboundPlace_eq_false_iff _).2 hfull⟩
  · intro s c n hreach hslot hstate
    have hindex : c.slotIndex = some n := CommandRecord.slotIndex_of_eq hslot
    have hexec : exec .release s = .next (s.serveRelease c).refreshReq := exec_row_of_reachesStep8 hreach nofun
    rw [hexec]
    simp only [State.serveRelease, hindex, if_neg hstate, State.finishPlain_emptySlot (.inr rfl) hindex]
    rfl

end Sys2Proof.Machine
end

section
/-! PROOFS. The Home Engine's inbound FETCH and spent outbound head, the Request Tracker's allocation, limits and
deadlines, and the health of a member. -/

namespace Sys2Proof.Machine

/-! ### The inbound FETCH -/

theorem State.handleFetch_of_head {s : State} {q : InboundEntry} {rest : List InboundEntry}
    (hq : s.home.inbound = q :: rest) (hfetch : q.request = .fetch) :
    s.handleFetch = if s.headFree q then s.popInbound.answerInboundFetch q else s := by
  simp [State.handleFetch, hq, hfetch]

/-- Settles O33. -/
theorem inboundFetchIsAnswered : Obligations.InboundFetchIsAnswered := by
  intro s q rest hready hq hfetch r answered
  have hexec : exec .inboundFetchHandled s = .next s.handleFetch.refreshReq := by
    change Host.Outcome.next (s.followOn State.handleFetch) = _
    rw [State.followOn_of_ready hready]
  rw [hexec, State.handleFetch_of_head hq hfetch]
  refine ⟨fun hwait => ?_, fun hmember hfree hroom => ?_⟩
  · rw [State.headFree_of_waiting hwait]
    rfl
  · have hanswer : s.popInbound.answerInboundFetch q =
        if s.ownHome q.key then
          s.popInbound.sendFrame (dataFrame s.pins.station s.formation.epoch q r) false
        else s.popInbound.refuse q .spanFault 0 := rfl
    rw [if_pos ((s.headFree_iff q).2 ⟨hmember, hfree, hroom⟩), hanswer, State.popInbound_of_cons hq]
    refine ⟨fun hown => ?_, fun hforeign => ?_⟩
    · rw [if_pos hown]
      rfl
    · rw [if_neg (by simp [hforeign])]
      rfl

/-! ### The spent outbound head -/

theorem Frame.kind_iff {f : Frame} {k : FrameKind} : f.kind = some k ↔ f.code = k.code :=
  ⟨FrameKind.eq_code_of_ofCode, Frame.kind_of_code⟩

theorem OutboundEntry.spent_iff (o : OutboundEntry) : o.spent = true ↔ 8 ≤ o.attempts := by
  rw [OutboundEntry.spent, decide_eq_true_eq]
  rfl

theorem State.popOutbound_of_cons {s : State} {o : OutboundEntry} {rest : List OutboundEntry}
    (h : s.home.outbound = o :: rest) :
    s.popOutbound = { s with home := { s.home with outbound := rest } } := by
  simp [State.popOutbound, h]

/-- Settles O35. -/
theorem spentOutboundHeadLeaves : Obligations.SpentOutboundHeadLeaves := by
  intro s o rest hlive hhead hattempts unmarked version
  have hspent := o.spent_iff.2 hattempts
  have hdrop (hcode : o.frame.code = 11) : exec .publishDropped s = .next (s.dropPublishOf o).refreshReq := by
    have hkind : o.frame.kind = some .publish := Frame.kind_of_code hcode
    change Host.Outcome.next (s.limitRow State.dropPublish) = _
    rw [State.limitRow_of_live hlive]
    simp [State.dropPublish, hhead, hspent, hkind]
  have hunmarked : ({ s.popOutbound with
      home := { s.popOutbound.home with store := storeMark s.popOutbound.home.store o.frame.key false } } :
        State).retest = unmarked := by
    rw [State.popOutbound_of_cons hhead]
    rfl
  refine ⟨fun hcode => ?_, fun hcode horigin => ?_, fun i e law hcode horigin he hkind htag => ?_⟩
  · have hkind : o.frame.kind ≠ some .publish := fun h => hcode (Frame.kind_iff.1 h)
    change Host.Outcome.next (s.limitRow State.discardHead) = _
    rw [State.limitRow_of_live hlive]
    simp [State.discardHead, hhead, hspent, hkind, State.popOutbound_of_cons hhead]
  · rw [hdrop hcode, State.dropPublishOf, hunmarked, horigin]
    rfl
  · rw [hdrop hcode, State.dropPublishOf, hunmarked, if_pos horigin, ← htag,
      State.failOwn_of_entry (s := unmarked) he (law.ownEntry_eq he hkind)]

/-! ### Allocation -/

/-- In a list that rises in `f`, a search finds the element that passes with the least `f`. -/
theorem find?_eq_some_iff_least {α : Type} {f : α → Nat} {p : α → Bool} {a : α} {xs : List α}
    (h : xs.Pairwise fun x y => f x < f y) :
    xs.find? p = some a ↔ a ∈ xs ∧ p a = true ∧ ∀ b ∈ xs, f b < f a → p b = false := by
  induction xs with
  | nil => simp
  | cons x xs ih =>
    obtain ⟨hx, hxs⟩ := List.pairwise_cons.1 h
    by_cases hp : p x = true
    · rw [List.find?_cons_of_pos hp, Option.some.injEq]
      refine ⟨fun hxa => ?_, fun ⟨ha, _, hleast⟩ => ?_⟩
      · subst hxa
        refine ⟨List.mem_cons_self, hp, fun b hb hlt => ?_⟩
        rcases List.mem_cons.1 hb with rfl | hb
        · exact absurd hlt (Nat.lt_irrefl _)
        · exact absurd hlt (hx b hb).asymm
      · rcases List.mem_cons.1 ha with rfl | ha
        · rfl
        · exact nomatch hp.symm.trans (hleast x List.mem_cons_self (hx a ha))
    · rw [List.find?_cons_of_neg hp, ih hxs]
      refine ⟨fun ⟨ha, hpa, hleast⟩ => ⟨List.mem_cons_of_mem x ha, hpa, ?_⟩, fun ⟨ha, hpa, hleast⟩ => ⟨?_, hpa, ?_⟩⟩
      · exact List.forall_mem_cons.2 ⟨fun _ => Bool.eq_false_iff.2 hp, hleast⟩
      · exact (List.mem_cons.1 ha).resolve_left fun hax => hp (hax ▸ hpa)
      · exact fun b hb => hleast b (List.mem_cons_of_mem x hb)

/-- The indices from the next-index pointer on, wrapping, by their distance from it. -/
theorem pairwise_entriesFrom (n : Fin 8) :
    (allEntries.map (n + ·)).Pairwise fun i j => (i - n).val < (j - n).val := by
  decide +revert

theorem mem_entriesFrom (n i : Fin 8) : i ∈ allEntries.map (n + ·) := by
  decide +revert

theorem RequestTracker.freeIndex_eq_some_iff (t : RequestTracker) (i : Fin 8) :
    t.freeIndex = some i ↔
      t.entries[i] = none ∧ ∀ j : Fin 8, (j - t.nextIndex).val < (i - t.nextIndex).val → t.entries[j] ≠ none := by
  rw [RequestTracker.freeIndex, find?_eq_some_iff_least (pairwise_entriesFrom t.nextIndex)]
  simp [mem_entriesFrom, -List.mem_map, -Fin.getElem_fin, ← Option.isSome_iff_ne_none]

theorem RequestTracker.freeIndex_eq_none_iff (t : RequestTracker) :
    t.freeIndex = none ↔ ∀ i : Fin 8, t.entries[i] ≠ none := by
  rw [RequestTracker.freeIndex, List.find?_eq_none]
  simp only [Option.isNone_iff_eq_none]
  exact ⟨fun h i => h i (mem_entriesFrom _ i), fun h i _ => h i⟩

/-- Settles O36. -/
theorem allocationTakesTheFirstFreeIndex : Obligations.AllocationTakesTheFirstFreeIndex := by
  intro t e
  refine ⟨t.freeIndex_eq_none_iff, fun i => ⟨t.freeIndex_eq_some_iff i, rfl, ?_, ?_, fun j hj => ⟨?_, ?_⟩⟩⟩
  · rw [RequestTracker.allocate, getElem_set_fin, if_pos rfl, BitVec.toNat_add]
    rfl
  · rw [RequestTracker.allocate, getElem_set_fin, if_pos rfl, RequestTracker.tagAt, spanTag, BitVec.toNat_add]
    rfl
  · rw [RequestTracker.allocate, getElem_set_fin, if_neg hj]
  · rw [RequestTracker.allocate, getElem_set_fin, if_neg hj]

/-! ### Limits and deadlines -/

theorem CopyTable.endFilling_of_filling {t : CopyTable} {k : Key} {w : Fin 4} (h : t[groupOf k].wayOf k = some w)
    (hf : t[groupOf k][w].state = .filling) : t.endFilling k = t.set (groupOf k) (t[groupOf k].release w) := by
  simp only [CopyTable.endFilling, h, if_pos hf]

/-- A key without a FILLING way keeps its copy (R54). -/
theorem CopyTable.endFilling_of_not_filling {t : CopyTable} {k : Key}
    (h : ∀ w : Fin 4, t[groupOf k][w].state = .filling → t[groupOf k][w].key ≠ k) : t.endFilling k = t := by
  cases hw : t[groupOf k].wayOf k with
  | none => simp only [CopyTable.endFilling, hw]
  | some w =>
    obtain ⟨-, hk⟩ := CopyGroup.wayOf_spec hw
    simp only [CopyTable.endFilling, hw, if_neg fun hf => h w hf hk]

theorem RequestTracker.holds_of_some {t : RequestTracker} {i : Fin 8} {e : PendingEntry} (h : t.entries[i] = some e)
    (p : PendingEntry → Bool) : t.holds p i = p e := by
  simp only [RequestTracker.holds, h]

theorem PendingEntry.retriesSpent_iff (e : PendingEntry) :
    e.retriesSpent = true ↔ e.state = .queued ∧ 16 ≤ e.retries := by
  rw [PendingEntry.retriesSpent, Bool.and_eq_true, beq_iff_eq, decide_eq_true_eq]
  rfl

theorem PendingEntry.attemptsSpent_iff (e : PendingEntry) :
    e.attemptsSpent = true ↔ e.state = .queued ∧ 8 ≤ e.attempts := by
  rw [PendingEntry.attemptsSpent, Bool.and_eq_true, beq_iff_eq, decide_eq_true_eq]
  rfl

/-- What RETRY_LIMIT and ATTEMPT_LIMIT do at an entry that reached its limit (R80, R81). -/
theorem exec_limits_of_queued {s : State} {i : Fin 8} {e : PendingEntry} (hlive : s.live = true)
    (he : s.tracker.entries[i] = some e) (hqueued : e.state = .queued) :
    (16 ≤ e.retries → exec (.retryLimit i) s = .next (s.withEntryEnded i e .homeBusy 0).refreshReq) ∧
      (8 ≤ e.attempts → exec (.attemptLimit i) s = .next
        (if e.lastVoided = true then s.withEntryEnded i e .spanFault 0
        else (s.withEntryEnded i e .homeSilent 0).silence e.home).refreshReq) := by
  refine ⟨fun hretries => ?_, fun hattempts => ?_⟩
  · change Host.Outcome.next (s.limitRow fun s => s.retryLimitAt i) = _
    rw [State.limitRow_of_live hlive, State.retryLimitAt, RequestTracker.holds_of_some he,
      if_pos (e.retriesSpent_iff.2 ⟨hqueued, hretries⟩), State.failEntry_of_some he]
  · change Host.Outcome.next (s.limitRow fun s => s.attemptLimitAt i) = _
    rw [State.limitRow_of_live hlive, State.attemptLimitAt, he]
    simp only [e.attemptsSpent_iff.2 ⟨hqueued, hattempts⟩, if_true, State.failEntry_of_some he]

/-- An event at a timer finds the clock at the timer's time or later (notes/assumptions/8.md). -/
theorem State.startEvent_advance (s : State) (t : Time) : s.startEvent.advance t = s.eventAt t := rfl

/-- Settles O37. -/
theorem limitsAndDeadlinesEndTheEntry : Obligations.LimitsAndDeadlinesEndTheEntry := by
  refine ⟨fun s i e hlive he hqueued => ?_, fun s i e hrest he => ⟨fun d hsent hd => ?_, fun hqueued => ?_⟩,
    fun copies k g law hg => ?_⟩
  · obtain ⟨hretry, hattempt⟩ := exec_limits_of_queued hlive he hqueued
    refine ⟨hretry, fun hattempts hvoided => ?_, fun hattempts hvoided => ?_⟩
    · rw [hattempt hattempts, if_pos hvoided]
    · rw [hattempt hattempts, if_neg (by simp [hvoided])]
  · change Host.Outcome.next (s.onEvent fun s => s.expireAt i) = _
    have he' : s.startEvent.tracker.entries[i] = some e := he
    have hat : (s.eventAt d).tracker.entries[i] = some e := he
    rw [State.onEvent_of_atRest hrest, State.expireAt, he']
    simp only [hd, Option.getD_some, State.startEvent_advance, State.deadlineAt, hat, hsent, if_true,
      State.failEntry_of_some hat]
  · change Host.Outcome.next (s.onEvent fun s => s.readyAt i) = _
    have he' : s.startEvent.tracker.entries[i] = some e := he
    rw [State.onEvent_of_atRest hrest, State.readyAt, he']
    simp only [hqueued, if_true, State.startEvent_advance]
  · obtain rfl : g = groupOf k := Fin.ext hg
    refine ⟨fun w hfilling hkey => ?_, CopyTable.endFilling_of_not_filling⟩
    have hway : copies[groupOf k].wayOf k = some w := (law _).wayOf_eq (by rw [hfilling]; decide) hkey
    rw [CopyTable.endFilling_of_filling hway hfilling]
    refine ⟨?_, fun v hv => ?_, fun h hh => ?_⟩
    · simpa [CopyEntry.cleared, TableRecord.cleared] using CopyGroup.getElem_release copies[groupOf k] w w
    · simpa using (law (groupOf k)).getElem_release hv
    · simp [Fin.val_ne_of_ne hh.symm]

/-! ### Health -/

/-- A silence and evidence of one moment leave the evidence alone, in either order (R126). -/
theorem Member.silenced_alive (m : Member) (now : Time) : (m.alive now).silenced now = m.alive now := by
  rw [Member.silenced_eq, Member.alive_eq]
  split
  · simp
  next h =>
    have hlost : m.health = .lost := not_not.1 h
    simp [hlost]

theorem Member.alive_silenced (m : Member) (now : Time) : (m.silenced now).alive now = m.alive now := by
  rw [Member.silenced_eq]
  split
  next h => simp [Member.alive_eq, h.1]
  next => rfl

theorem FormationController.modify_modify (fc : FormationController) (st : Station) {g h k : Member → Member}
    (hstation : ∀ m, (g m).station = m.station) (hk : ∀ m, h (g m) = k m) :
    (fc.modify st g).modify st h = fc.modify st k := by
  rw [FormationController.modify, FormationController.modify, FormationController.modify, List.map_map]
  congr 1
  refine List.map_congr_left fun m _ => ?_
  by_cases hm : m.station = st
  · simp [hm, hstation, hk]
  · simp [hm]

theorem Member.station_alive (m : Member) (now : Time) : (m.alive now).station = m.station := by
  rw [Member.alive_eq]
  split <;> rfl

theorem Member.station_silenced (m : Member) (now : Time) : (m.silenced now).station = m.station := by
  rw [Member.silenced_eq]
  split <;> rfl

theorem State.evidence_of_member {s : State} {st : Station} (h : s.formation.state = .member)
    (hst : st ≠ s.pins.station) :
    s.evidence st = { s with formation := s.formation.modify st (Member.alive s.clock) } :=
  if_pos ⟨h, hst⟩

theorem State.silence_of_member {s : State} {st : Station} (h : s.formation.state = .member)
    (hst : st ≠ s.pins.station) :
    s.silence st = { s with formation := s.formation.modify st (Member.silenced s.clock) } :=
  if_pos ⟨h, hst⟩

/-- Settles O38. -/
theorem healthFollowsSilenceAndEvidence : Obligations.HealthFollowsSilenceAndEvidence := by
  intro s st
  have hnone (h : s.formation.state ≠ .member ∨ st = s.pins.station) : s.silence st = s ∧ s.evidence st = s := by
    have hneg : ¬ (s.formation.state = .member ∧ st ≠ s.pins.station) := by tauto
    exact ⟨if_neg hneg, if_neg hneg⟩
  refine ⟨hnone, fun hmember hst => ⟨?_, ?_⟩, ?_, ?_⟩
  · rw [State.silence_of_member hmember hst, FormationController.modify]
    congr 2
    refine List.map_congr_left fun m _ => ?_
    by_cases hm : m.station = st <;> simp [hm, Member.silenced_eq]
  · rw [State.evidence_of_member hmember hst, FormationController.modify]
    congr 2
    refine List.map_congr_left fun m _ => ?_
    by_cases hm : m.station = st <;> simp [hm, Member.alive_eq]
  · by_cases h : s.formation.state = .member ∧ st ≠ s.pins.station
    · rw [State.evidence_of_member h.1 h.2,
        State.silence_of_member (s := { s with formation := s.formation.modify st (Member.alive s.clock) }) h.1 h.2,
        FormationController.modify_modify _ _ (fun m => m.station_alive _) fun m => m.silenced_alive _]
    · rw [(hnone (by tauto)).2, (hnone (by tauto)).1]
  · by_cases h : s.formation.state = .member ∧ st ≠ s.pins.station
    · rw [State.silence_of_member h.1 h.2,
        State.evidence_of_member (s := { s with formation := s.formation.modify st (Member.silenced s.clock) }) h.1 h.2,
        State.evidence_of_member h.1 h.2, FormationController.modify_modify _ _ (fun m => m.station_silenced _) fun m => m.alive_silenced _]
    · rw [(hnone (by tauto)).1]

end Sys2Proof.Machine
end

section
/-! PROOFS. A member leaves UP or becomes LOST: every block lets go of its keys (R55, R67, R93, R127, R162). -/

namespace Sys2Proof.Machine

/-! ### Freeing ways -/

/-- Some ways of a group are freed one after another, each of a key that satisfies `q`. -/
def CopyGroup.Thins (q : Key → Prop) : CopyGroup → CopyGroup → Prop :=
  Relation.ReflTransGen fun g g' => ∃ w : Fin 4, g[w].occupied = true ∧ q g[w].key ∧ g' = g.release w

theorem CopyGroup.Thins.refl (q : Key → Prop) (g : CopyGroup) : g.Thins q g := Relation.ReflTransGen.refl

theorem CopyGroup.Thins.trans {q : Key → Prop} {g g' g'' : CopyGroup} (h : g.Thins q g') (h' : g'.Thins q g'') :
    g.Thins q g'' :=
  Relation.ReflTransGen.trans h h'

theorem CopyGroup.Thins.mono {q q' : Key → Prop} (hq : ∀ k, q k → q' k) {g g' : CopyGroup} (h : g.Thins q g') :
    g.Thins q' g' :=
  Relation.ReflTransGen.mono (fun _ _ ⟨w, ho, hk, heq⟩ => ⟨w, ho, hq _ hk, heq⟩) _ _ h

/-- What freeing a way leaves of another one. -/
theorem CopyGroup.release_of_occupied {g : CopyGroup} {w v : Fin 4} (h : (g.release w)[v].occupied = true) :
    v ≠ w ∧ g[v].occupied = true ∧ (g.release w)[v].key = g[v].key ∧ (g.release w)[v].state = g[v].state ∧
      (g.release w)[v].record = g[v].record := by
  have hget := CopyGroup.getElem_release g w v
  by_cases hv : v = w
  · rw [hget, if_pos hv] at h
    exact nomatch h
  · rw [if_neg hv] at hget
    by_cases hold : g[v].occupied = true ∧ g[w].age < g[v].age
    · rw [if_pos hold] at hget
      rw [hget]
      exact ⟨hv, hold.1, rfl, rfl, rfl⟩
    · rw [if_neg hold] at hget
      rw [hget] at h ⊢
      exact ⟨hv, h, rfl, rfl, rfl⟩

theorem CopyGroup.occupied_release {g : CopyGroup} {w v : Fin 4} (hv : v ≠ w) (h : g[v].occupied = true) :
    (g.release w)[v].occupied = true := by
  rw [CopyGroup.getElem_release, if_neg hv]
  split <;> exact h

/-- A way that stays keeps key, state and record. -/
theorem CopyGroup.Thins.kept {q : Key → Prop} {g g' : CopyGroup} (h : g.Thins q g') {w : Fin 4}
    (hw : g'[w].occupied = true) :
    g[w].occupied = true ∧ g'[w].key = g[w].key ∧ g'[w].state = g[w].state ∧ g'[w].record = g[w].record := by
  induction h with
  | refl => exact ⟨hw, rfl, rfl, rfl⟩
  | tail _ hstep ih =>
    obtain ⟨v, -, -, rfl⟩ := hstep
    obtain ⟨-, ho, hkey, hstate, hrecord⟩ := CopyGroup.release_of_occupied hw
    obtain ⟨ho', hkey', hstate', hrecord'⟩ := ih ho
    exact ⟨ho', hkey.trans hkey', hstate.trans hstate', hrecord.trans hrecord'⟩

/-- A way whose key does not satisfy `q` stays. -/
theorem CopyGroup.Thins.stays {q : Key → Prop} {g g' : CopyGroup} (h : g.Thins q g') {w : Fin 4}
    (hw : g[w].occupied = true) (hq : ¬ q g[w].key) : g'[w].occupied = true := by
  induction h with
  | refl => exact hw
  | tail hthins hstep ih =>
    obtain ⟨v, -, hk, rfl⟩ := hstep
    refine CopyGroup.occupied_release ?_ ih
    rintro rfl
    rw [(CopyGroup.Thins.kept hthins ih).2.1] at hk
    exact hq hk

/-- Freeing ways of a lawful group keeps the law, and the order of the ways that stay. -/
theorem CopyGroup.Thins.law {q : Key → Prop} {g g' : CopyGroup} (h : g.Thins q g') {i : Fin 64}
    (law : GroupLaw i g) :
    GroupLaw i g' ∧ ∀ v w : Fin 4, g'[v].occupied = true → g'[w].occupied = true →
      (g'[v].age < g'[w].age ↔ g[v].age < g[w].age) := by
  induction h with
  | refl => exact ⟨law, fun _ _ _ _ => .rfl⟩
  | tail hthins hstep ih =>
    obtain ⟨x, hx, -, rfl⟩ := hstep
    obtain ⟨hlaw, horder⟩ := ih
    refine ⟨hlaw.release hx, fun v w hv hw => ?_⟩
    obtain ⟨hvx, hvo, -⟩ := CopyGroup.release_of_occupied hv
    obtain ⟨hwx, hwo, -⟩ := CopyGroup.release_of_occupied hw
    have hvne := mt (hlaw.ages_distinct v x hvo hx) hvx
    have hwne := mt (hlaw.ages_distinct w x hwo hx) hwx
    rw [← horder v w hvo hwo, hlaw.getElem_release hvx, hlaw.getElem_release hwx]
    dsimp only
    split <;> split <;> omega

/-! ### Ages count the younger ways -/

theorem countP_lt_range (a n : Nat) : (List.range n).countP (fun x => decide (x < a)) = min a n := by
  induction n with
  | zero => simp
  | succ n ih =>
    rw [List.range_succ, List.countP_append, ih, List.countP_singleton]
    by_cases h : n < a
    · simp only [h, decide_true, if_true]
      omega
    · simp only [h, decide_false]
      simp only [Bool.false_eq_true, if_false]
      omega

/-- In a lawful group a way is as old as there are younger ways (R41). -/
theorem GroupLaw.age_eq_count {i : Fin 64} {g : CopyGroup} (law : GroupLaw i g) {w : Fin 4}
    (hw : g[w].occupied = true) :
    g[w].age = ((List.finRange 4).filter fun v => g[v].occupied && decide (g[v].age < g[w].age)).length := by
  have hcount : g.occupiedCount = ((List.finRange 4).filter fun v => g[v].occupied).length := rfl
  have hnodup : (((List.finRange 4).filter fun v => g[v].occupied).map fun v => g[v].age).Nodup := by
    refine List.Nodup.map_on (fun u hu v hv h => ?_) ((List.nodup_finRange 4).filter _)
    exact law.ages_distinct u v (List.mem_filter.1 hu).2 (List.mem_filter.1 hv).2 h
  have hsubset : (((List.finRange 4).filter fun v => g[v].occupied).map fun v => g[v].age) ⊆
      List.range g.occupiedCount := by
    intro a ha
    obtain ⟨v, hv, rfl⟩ := List.mem_map.1 ha
    exact List.mem_range.2 (law.ages_dense v (List.mem_filter.1 hv).2)
  have hperm : (((List.finRange 4).filter fun v => g[v].occupied).map fun v => g[v].age).Perm
      (List.range g.occupiedCount) :=
    (hnodup.subperm hsubset).perm_of_length_le (by rw [List.length_range, List.length_map, hcount])
  have hlt := law.ages_dense w hw
  have hage : (List.range g.occupiedCount).countP (fun a => decide (a < g[w].age)) = g[w].age := by
    rw [countP_lt_range, Nat.min_eq_left hlt.le]
  rw [← hperm.countP_eq, List.countP_map, List.countP_filter] at hage
  rw [← List.countP_eq_length_filter]
  exact hage.symm.trans (List.countP_congr fun v _ => by simp [and_comm])

/-! ### The table when a member leaves -/

/-- In every group ways are freed, each of a key that satisfies `q`. -/
def CopyTable.Thins (q : Key → Prop) (t t' : CopyTable) : Prop :=
  ∀ i : Fin 64, t[i].Thins q t'[i]

theorem CopyTable.Thins.refl (q : Key → Prop) (t : CopyTable) : t.Thins q t := fun _ => .refl q _

theorem CopyTable.Thins.trans {q : Key → Prop} {t t' t'' : CopyTable} (h : t.Thins q t') (h' : t'.Thins q t'') :
    t.Thins q t'' :=
  fun i => (h i).trans (h' i)

theorem CopyTable.thins_endFilling (t : CopyTable) (k : Key) : t.Thins (· = k) (t.endFilling k) := by
  cases hw : t[groupOf k].wayOf k with
  | none =>
    simp only [CopyTable.endFilling, hw]
    exact .refl _ t
  | some w =>
    obtain ⟨ho, hk⟩ := CopyGroup.wayOf_spec hw
    intro i
    simp only [CopyTable.endFilling, hw]
    split
    · by_cases hi : i = groupOf k
      · subst hi
        rw [getElem_set_fin, if_pos rfl]
        exact .single ⟨w, ho, hk, rfl⟩
      · rw [getElem_set_fin, if_neg hi]
        exact .refl _ _
    · exact .refl _ _

/-- Freeing one of the listed ways after another, each if its key satisfies `p`. -/
def CopyGroup.releaseAmong (p : Key → Bool) (g : CopyGroup) (ws : List (Fin 4)) : CopyGroup :=
  ws.foldl (fun g w => if g[w].occupied && p g[w].key then g.release w else g) g

theorem CopyGroup.thins_releaseAmong (p : Key → Bool) (ws : List (Fin 4)) (g : CopyGroup) :
    g.Thins (fun k => p k = true) (g.releaseAmong p ws) := by
  refine foldl_induct (P := g.Thins fun k => p k = true) (fun g' w h => ?_) ws g (.refl _ g)
  split
  next hfree =>
    obtain ⟨ho, hp⟩ := Bool.and_eq_true_iff.1 hfree
    exact h.trans (.single ⟨w, ho, hp, rfl⟩)
  next => exact h

/-- No listed way that satisfies `p` stays occupied. -/
theorem CopyGroup.releaseAmong_gone {p : Key → Bool} {ws : List (Fin 4)} {g : CopyGroup} {w : Fin 4} (h : w ∈ ws)
    (ho : (g.releaseAmong p ws)[w].occupied = true) : p (g.releaseAmong p ws)[w].key = false := by
  induction ws generalizing g with
  | nil => exact nomatch h
  | cons x ws ih =>
    rw [CopyGroup.releaseAmong, List.foldl_cons, ← CopyGroup.releaseAmong] at ho ⊢
    by_cases hw : w ∈ ws
    · exact ih hw ho
    · obtain rfl : w = x := (List.mem_cons.1 h).resolve_right hw
      obtain ⟨hstep, hkey, -⟩ := (CopyGroup.thins_releaseAmong p ws _).kept ho
      rw [hkey]
      by_cases hfree : (g[w].occupied && p g[w].key) = true
      · rw [if_pos hfree] at hstep
        exact absurd rfl (CopyGroup.release_of_occupied hstep).1
      · rw [if_neg hfree] at hstep ⊢
        rw [hstep, Bool.true_and] at hfree
        exact Bool.eq_false_iff.2 hfree

theorem CopyTable.getElem_releaseWhere (t : CopyTable) (p : Key → Bool) (i : Fin 64) :
    (t.releaseWhere p)[i] = t[i].releaseAmong p allWays := by
  simp [CopyTable.releaseWhere, CopyGroup.releaseWhere, CopyGroup.releaseAmong]

/-- The keys of the FETCH entries among those that end. -/
def State.EndsFetchOf (s : State) (xs : List (Fin 8 ⊕ HostTag)) (k : Key) : Prop :=
  ∃ i e, Sum.inl i ∈ xs ∧ s.tracker.entries[i] = some e ∧ e.kind = .fetch ∧ e.key = k

theorem State.endOne_copies (s : State) (o : CmdOutcome) (x : Fin 8 ⊕ HostTag) :
    s.copies.Thins (s.EndsFetchOf [x]) (s.endOne o x).copies := by
  cases x with
  | inr tag => exact .refl _ _
  | inl i =>
    cases hi : s.tracker.entries[i] with
    | none =>
      rw [State.endOne, State.failEntry_of_none hi]
      exact .refl _ _
    | some e =>
      rw [State.endOne, State.failEntry_of_some hi, State.withEntryEnded]
      dsimp only
      split
      next hfetch =>
        intro j
        exact (s.copies.thins_endFilling e.key j).mono fun k hk => ⟨i, e, by simp, hi, hfetch, hk.symm⟩
      next => exact .refl _ _

/-- The FETCH entries that end free ways of their own keys only (R54). -/
theorem State.endAll_copies (o : CmdOutcome) (xs : List (Fin 8 ⊕ HostTag)) (s : State) :
    s.copies.Thins (s.EndsFetchOf xs) (s.endAll o xs).copies := by
  induction xs generalizing s with
  | nil => exact .refl _ _
  | cons x xs ih =>
    intro j
    rw [State.endAll_cons]
    refine ((s.endOne_copies o x j).mono ?_).trans ((ih (s.endOne o x) j).mono ?_)
    · rintro k ⟨i, e, hi, he, hfetch, hk⟩
      exact ⟨i, e, by simp_all, he, hfetch, hk⟩
    · rintro k ⟨i, e, hi, he, hfetch, hk⟩
      rw [State.endOne_entries] at he
      split at he
      · exact nomatch he
      · exact ⟨i, e, List.mem_cons_of_mem x hi, he, hfetch, hk⟩

/-! ### Several watches fire -/

/-- The listed watches fire, one after another (R162, R163). -/
def WatchUnit.fireEach (w : WatchUnit) (is : List (Fin 32)) (f : Firing) : WatchUnit :=
  is.foldl (fun w i => w.fire i f) w

/-- An entry in use that fires is FIRED with the new fields; an ARMED one joins the fired list (9.3). -/
theorem WatchUnit.fire_eq (w : WatchUnit) (i : Fin 32) (f : Firing) :
    (∀ j : Fin 32, (w.fire i f).entries[j] =
      if j = i ∧ w.entries[i].state ≠ .free then { w.entries[j] with state := .fired, firing := f }
      else w.entries[j]) ∧
    (w.fire i f).fired = if w.entries[i].state = .armed then w.fired ++ [i] else w.fired := by
  rcases w.fire_cases i f with ⟨h, hfire⟩ | ⟨h, hfire⟩ | ⟨h, hfire⟩
  · rw [hfire]
    refine ⟨fun j => ?_, by rw [if_pos h]⟩
    rw [getElem_set_fin]
    by_cases hj : j = i
    · subst hj
      rw [if_pos rfl, if_pos ⟨rfl, by rw [h]; nofun⟩]
    · rw [if_neg hj, if_neg fun hh => hj hh.1]
  · rw [hfire]
    refine ⟨fun j => ?_, by rw [if_neg (by rw [h]; nofun)]⟩
    rw [getElem_set_fin]
    by_cases hj : j = i
    · subst hj
      rw [if_pos rfl, if_pos ⟨rfl, by rw [h]; nofun⟩, ← h]
    · rw [if_neg hj, if_neg fun hh => hj hh.1]
  · rw [hfire]
    exact ⟨fun j => by rw [if_neg fun hh => hh.2 h], by rw [if_neg (by rw [h]; nofun)]⟩

theorem WatchUnit.fireEach_eq {is : List (Fin 32)} (h : is.Nodup) (w : WatchUnit) (f : Firing) :
    (∀ j : Fin 32, (w.fireEach is f).entries[j] =
      if j ∈ is ∧ w.entries[j].state ≠ .free then { w.entries[j] with state := .fired, firing := f }
      else w.entries[j]) ∧
    (w.fireEach is f).fired = w.fired ++ is.filter fun i => w.entries[i].state == .armed := by
  induction is generalizing w with
  | nil => simp [WatchUnit.fireEach]
  | cons i is ih =>
    obtain ⟨hi, his⟩ := List.nodup_cons.1 h
    obtain ⟨hentries, hfired⟩ := w.fire_eq i f
    obtain ⟨ihentries, ihfired⟩ := ih his (w.fire i f)
    have hother {j : Fin 32} (hj : j ≠ i) : (w.fire i f).entries[j] = w.entries[j] := by
      rw [hentries, if_neg fun hh => hj hh.1]
    refine ⟨fun j => ?_, ?_⟩
    · refine (ihentries j).trans ?_
      by_cases hj : j = i
      · subst hj
        rw [if_neg fun hh => hi hh.1, hentries]
        simp only [List.mem_cons_self, true_and]
      · rw [hother hj]
        simp only [List.mem_cons, hj, false_or]
    · have hrest : (is.filter fun i' => (w.fire i f).entries[i'].state == .armed) =
          is.filter fun i' => w.entries[i'].state == .armed :=
        List.filter_congr fun j hj => by rw [hother fun heq => hi (heq ▸ hj)]
      refine ihfired.trans ?_
      rw [hrest, hfired, List.filter_cons]
      by_cases harmed : w.entries[i].state = .armed
      · rw [if_pos harmed, if_pos (by rw [harmed]; rfl), List.append_assoc, List.singleton_append]
      · rw [if_neg harmed, if_neg (by simpa using harmed)]

/-- The watches that fire together, in ascending order of key (R162, R163). -/
def WatchUnit.firing (w : WatchUnit) (p : WatchEntry → Bool) : List (Fin 32) :=
  (allWatches.filter fun i => p w.entries[i]).insertionSort fun i j => w.entries[i].key.toNat ≤ w.entries[j].key.toNat

theorem WatchUnit.fireAll_eq (w : WatchUnit) (p : WatchEntry → Bool) (f : Firing) :
    w.fireAll p f = w.fireEach (w.firing p) f := rfl

theorem WatchUnit.mem_firing (w : WatchUnit) (p : WatchEntry → Bool) (i : Fin 32) :
    i ∈ w.firing p ↔ p w.entries[i] = true := by
  rw [WatchUnit.firing, List.mem_insertionSort, List.mem_filter]
  exact and_iff_right (mem_allWatches i)

theorem WatchUnit.firing_nodup (w : WatchUnit) (p : WatchEntry → Bool) : (w.firing p).Nodup :=
  (List.perm_insertionSort _ _).nodup_iff.2 (List.Nodup.filter _ (by decide))

theorem WatchUnit.firing_ascends (w : WatchUnit) (p : WatchEntry → Bool) :
    (w.firing p).Pairwise fun i j => w.entries[i].key.toNat ≤ w.entries[j].key.toNat := by
  have : Std.Total fun i j : Fin 32 => w.entries[i].key.toNat ≤ w.entries[j].key.toNat :=
    ⟨fun i j => Nat.le_total _ _⟩
  have : IsTrans (Fin 32) fun i j => w.entries[i].key.toNat ≤ w.entries[j].key.toNat :=
    ⟨fun i j k => Nat.le_trans⟩
  exact List.pairwise_insertionSort _ _

/-- What several firings leave: the entries in use that satisfy `p` are FIRED, and the ARMED ones of them join the
fired list in ascending order of key. -/
theorem WatchUnit.fireAll_entries (w : WatchUnit) (p : WatchEntry → Bool) (f : Firing) (j : Fin 32) :
    (w.fireAll p f).entries[j] =
      if p w.entries[j] = true ∧ w.entries[j].state ≠ .free then { w.entries[j] with state := .fired, firing := f }
      else w.entries[j] := by
  rw [WatchUnit.fireAll_eq, (WatchUnit.fireEach_eq (w.firing_nodup p) w f).1 j]
  simp only [w.mem_firing]

theorem WatchUnit.fireAll_fired (w : WatchUnit) (p : WatchEntry → Bool) (f : Firing) :
    ∃ new : List (Fin 32), (w.fireAll p f).fired = w.fired ++ new ∧ new.Nodup ∧
      new.Pairwise (fun i j => w.entries[i].key.toNat ≤ w.entries[j].key.toNat) ∧
      ∀ i : Fin 32, i ∈ new ↔ p w.entries[i] = true ∧ w.entries[i].state = .armed := by
  refine ⟨(w.firing p).filter fun i => w.entries[i].state == .armed, ?_, (w.firing_nodup p).filter _,
    (w.firing_ascends p).filter _, fun i => ?_⟩
  · exact (WatchUnit.fireEach_eq (w.firing_nodup p) w f).2
  · rw [List.mem_filter, w.mem_firing, beq_iff_eq]

end Sys2Proof.Machine
end

section
/-! PROOFS. A member with three silences becomes SILENT, and what every block lets go of (R126, R127). -/

namespace Sys2Proof.Machine

/-- The HELD slots that satisfy `p` are LOST (R65, R67). -/
theorem State.getElem_loseSlots (s : State) (p : Key → Bool) (n : Fin 4) :
    (s.loseSlots p).slots[n] =
      if s.slots[n].state = .held ∧ p s.slots[n].key = true then { s.slots[n] with state := .lost }
      else s.slots[n] := by
  simp [State.loseSlots]

theorem FormationController.homedAtRank_iff (fc : FormationController) (r : Nat) (k : Key) :
    fc.homedAtRank r k = true ↔ k.toNat % fc.members.length = r := by
  simp [FormationController.homedAtRank]

/-- The entries that a member's departure ends (R93). -/
def PendingEntry.headedFor (st : Station) (e : PendingEntry) : Bool :=
  e.kind != .own && e.home == st

theorem PendingEntry.headedFor_iff (st : Station) (e : PendingEntry) :
    e.headedFor st = true ↔ e.kind ≠ .own ∧ e.home = st := by
  simp [PendingEntry.headedFor]

/-- The pending entries that a member's departure ends, in the order that the codes choose. -/
def State.departing (s : State) (m : Member) (order : List Nat) : List (Fin 8) :=
  arrange order (s.tracker.indices (PendingEntry.headedFor m.station))

theorem State.mem_departing (s : State) (m : Member) (order : List Nat) (i : Fin 8) :
    Sum.inl i ∈ ((s.departing m order).map Sum.inl : List (Fin 8 ⊕ HostTag)) ↔
      ∃ e, s.tracker.entries[i] = some e ∧ e.kind ≠ .own ∧ e.home = m.station := by
  have hmem : i ∈ s.departing m order ↔ i ∈ s.tracker.indices (PendingEntry.headedFor m.station) :=
    (arrange_perm order _).mem_iff
  rw [List.mem_map_of_injective Sum.inl_injective, hmem, RequestTracker.mem_indices]
  simp only [PendingEntry.headedFor_iff]

/-- The member has its new health, and the slots on its keys are lost. -/
def State.markDown (s : State) (m : Member) (health : Health) : State :=
  ({ s with formation := s.formation.modify m.station fun x => { x with health := health } } : State).loseSlots
    (s.formation.homedAtRank m.rank)

/-- Then the entries for it have ended, too. -/
def State.afterDeparture (s : State) (m : Member) (health : Health) (order : List Nat) : State :=
  (s.markDown m health).endAll .homeDown ((s.departing m order).map .inl)

theorem State.memberDown_eq (s : State) (m : Member) (health : Health) (order : List Nat) :
    s.memberDown m health order =
      ({ s.afterDeparture m health order with
        copies := (s.afterDeparture m health order).copies.releaseWhere (s.formation.homedAtRank m.rank)
        watch := (s.afterDeparture m health order).watch.fireAll
          (fun w => w.armed && s.formation.homedAtRank m.rank w.key)
          { reason := .homeDown, origin := m.station, record := .cleared } } : State).retest := by
  rw [State.afterDeparture, ← State.failAll_eq_endAll]
  rfl

/-- The ends of pending entries leave the blocks behind them. -/
theorem State.endAll_entries_frame (s : State) (o : CmdOutcome) (is : List (Fin 8)) :
    let t := s.endAll o (is.map .inl)
    t.clock = s.clock ∧ t.pins = s.pins ∧ t.span = s.span ∧ t.formation = s.formation ∧ t.home = s.home ∧
      t.watch = s.watch ∧ t.pending = s.pending ∧ t.tracker.generations = s.tracker.generations ∧
      t.tracker.nextIndex = s.tracker.nextIndex ∧ t.seen = s.seen := by
  obtain ⟨hclock, hpins, hspan, hformation, hhome, hwatch, hpending, -, hgen, hnext, hseen, -⟩ :=
    State.failAll_frame is o s
  rw [State.failAll_eq_endAll] at hclock hpins hspan hformation hhome hwatch hpending hgen hnext hseen
  exact ⟨hclock, hpins, hspan, hformation, hhome, hwatch, hpending, hgen, hnext, hseen⟩

/-- The copies that stay when a member leaves (R42, R54, R55). -/
theorem State.memberDown_copies (s : State) (m : Member) (health : Health) (order : List Nat) :
    s.copies.Thins
        (fun k => k.toNat % s.formation.members.length = m.rank ∨
          ∃ (i : Fin 8) (e : PendingEntry), s.tracker.entries[i] = some e ∧ e.kind = .fetch ∧ e.home = m.station ∧
            e.key = k)
        (s.memberDown m health order).copies ∧
      ∀ (g : Fin 64) (w : Fin 4), (s.memberDown m health order).copies[g][w].occupied = true →
        (s.memberDown m health order).copies[g][w].key.toNat % s.formation.members.length ≠ m.rank := by
  have hcopies (g : Fin 64) : (s.memberDown m health order).copies[g] =
      (s.afterDeparture m health order).copies[g].releaseAmong (s.formation.homedAtRank m.rank) allWays := by
    rw [State.memberDown_eq]
    exact CopyTable.getElem_releaseWhere _ _ g
  refine ⟨fun g => ?_, fun g w ho => ?_⟩
  · rw [hcopies]
    refine CopyGroup.Thins.trans ?_ ((CopyGroup.thins_releaseAmong _ allWays _).mono fun k hk =>
      .inl ((FormationController.homedAtRank_iff _ _ _).1 hk))
    refine (State.endAll_copies .homeDown ((s.departing m order).map .inl) (s.markDown m health) g).mono ?_
    rintro k ⟨i, e, hi, he, hfetch, hk⟩
    obtain ⟨e', he', -, hhome⟩ := (s.mem_departing m order i).1 hi
    obtain rfl : e' = e := Option.some.inj (he'.symm.trans he)
    exact .inr ⟨i, e', he, hfetch, hhome, hk⟩
  · rw [hcopies] at ho ⊢
    have hgone := CopyGroup.releaseAmong_gone (mem_allWays w) ho
    exact fun h => nomatch ((FormationController.homedAtRank_iff _ _ _).2 h).symm.trans hgone

/-- The slots when a member leaves (R67, R69). -/
theorem State.memberDown_slots (s : State) (m : Member) (health : Health) (order : List Nat) (n : Fin 4) :
    (∀ (i : Fin 8) (e : PendingEntry), s.tracker.entries[i] = some e → e.kind ≠ .own → e.home = m.station →
      e.slot = some n → (s.memberDown m health order).slots[n] = { s.slots[n] with state := .empty }) ∧
    ((∀ (i : Fin 8) (e : PendingEntry), s.tracker.entries[i] = some e → e.kind ≠ .own → e.home = m.station →
      e.slot ≠ some n) →
      (s.memberDown m health order).slots[n] =
        if s.slots[n].state = .held ∧ s.slots[n].key.toNat % s.formation.members.length = m.rank then
          { s.slots[n] with state := .lost }
        else s.slots[n]) := by
  have hlost : (s.markDown m health).slots[n] =
      if s.slots[n].state = .held ∧ s.slots[n].key.toNat % s.formation.members.length = m.rank then
        { s.slots[n] with state := .lost }
      else s.slots[n] := by
    simp only [← FormationController.homedAtRank_iff]
    exact State.getElem_loseSlots _ _ n
  obtain ⟨hnamed, hother⟩ := (s.markDown m health).endAll_slots .homeDown ((s.departing m order).map .inl) n
  have hslots : (s.memberDown m health order).slots = (s.afterDeparture m health order).slots := by
    rw [State.memberDown_eq]
    rfl
  rw [hslots]
  refine ⟨fun i e he hkind hhome hslot => ?_, fun hnone => ?_⟩
  · refine (hnamed ⟨i, e, (s.mem_departing m order i).2 ⟨e, he, hkind, hhome⟩, he, hslot⟩).trans ?_
    rw [hlost]
    split <;> rfl
  · refine (hother ?_).trans hlost
    rintro ⟨i, e, hi, he, hslot⟩
    obtain ⟨e', he', hkind, hhome⟩ := (s.mem_departing m order i).1 hi
    obtain rfl : e' = e := Option.some.inj (he'.symm.trans he)
    exact hnone i e' he hkind hhome hslot

/-- The entries when a member leaves (R93). -/
theorem State.memberDown_entries (s : State) (m : Member) (health : Health) (order : List Nat) (i : Fin 8) :
    (s.memberDown m health order).tracker.entries[i] =
      match s.tracker.entries[i] with
      | some e => if e.kind ≠ .own ∧ e.home = m.station then none else some e
      | none => none := by
  have htracker : (s.memberDown m health order).tracker = (s.afterDeparture m health order).tracker := by
    rw [State.memberDown_eq]
    rfl
  obtain ⟨hends, hstays⟩ := (s.markDown m health).endAll_entries .homeDown ((s.departing m order).map .inl) i
  rw [htracker]
  by_cases h : ∃ e, s.tracker.entries[i] = some e ∧ e.kind ≠ .own ∧ e.home = m.station
  · refine (hends ((s.mem_departing m order i).2 h)).trans ?_
    obtain ⟨e, he, hkind⟩ := h
    rw [he]
    exact (if_pos hkind).symm
  · refine (hstays ((s.mem_departing m order i).not.2 h)).trans ?_
    change s.tracker.entries[i] = _
    cases he : s.tracker.entries[i] with
    | none => rfl
    | some e => exact (if_neg fun hkind => h ⟨e, he, hkind⟩).symm

/-- The records that a member's departure adds (R88, R93, R171). -/
theorem State.memberDown_port (s : State) (m : Member) (health : Health) (order : List Nat) :
    ∃ new : List QueueRecord,
      new.Perm (s.endedRecords (fun e => e.kind != .own && e.home == m.station) .homeDown) ∧
      (s.memberDown m health order).port = { s.port with
        completions := s.port.completions ++ new
        outstanding := s.port.outstanding - new.length
        fresh := (s.memberDown m health order).port.fresh } := by
  have hport : (s.memberDown m health order).port = (s.afterDeparture m health order).port := by
    rw [State.memberDown_eq]
    rfl
  have honce : EndsOnce ((s.departing m order).map Sum.inl) :=
    endsOnce_entries ((arrange_perm order _).nodup_iff.2 (s.tracker.indices_nodup _))
  refine ⟨((s.departing m order).map Sum.inl).filterMap (s.endRecord .homeDown), ?_, ?_⟩
  · refine (((arrange_perm order _).map Sum.inl).filterMap (s.endRecord .homeDown)).trans ?_
    rw [s.filterMap_endRecord_indices]
    rfl
  · rw [hport, State.afterDeparture, State.endAll_port .homeDown honce]
    rfl

/-- A member leaves UP or becomes LOST, block by block (R127). -/
theorem State.memberDown_withdrawn (s : State) (m : Member) (health : Health) (order : List Nat) :
    MemberWithdrawn s (s.memberDown m health order) m := by
  obtain ⟨hthins, hgone⟩ := s.memberDown_copies m health order
  have hframe := (s.markDown m health).endAll_entries_frame .homeDown (s.departing m order)
  obtain ⟨-, -, -, -, -, hwatch, -, hgen, hnext, -⟩ := hframe
  have hwatch' : (s.memberDown m health order).watch = s.watch.fireAll
      (fun w => w.armed && s.formation.homedAtRank m.rank w.key)
      { reason := .homeDown, origin := m.station, record := .cleared } := by
    rw [State.memberDown_eq, ← show (s.afterDeparture m health order).watch = s.watch from hwatch]
    rfl
  have harmed (x : WatchEntry) : (x.armed && s.formation.homedAtRank m.rank x.key) = true ↔
      x.state = .armed ∧ x.key.toNat % s.formation.members.length = m.rank := by
    rw [Bool.and_eq_true, FormationController.homedAtRank_iff]
    simp [WatchEntry.armed]
  refine ⟨fun g w ho => ?_, fun g w ho hhome hfetch => ?_, fun g w law ho => ?_,
    fun n i e => (s.memberDown_slots m health order n).1 i e, fun n => (s.memberDown_slots m health order n).2,
    s.memberDown_entries m health order, ?_, s.memberDown_port m health order, fun i => ?_, ?_, ?_⟩
  · obtain ⟨-, hkey, hstate, hrecord⟩ := (hthins g).kept ho
    exact ⟨hgone g w ho, hkey, hstate, hrecord⟩
  · refine (hthins g).stays ho ?_
    rintro (h | ⟨i, e, he, hkind, hst, hkey⟩)
    · exact hhome h
    · exact hfetch i e he hkind hst hkey
  · obtain ⟨hlaw, horder⟩ := (hthins g).law law
    rw [hlaw.age_eq_count ho]
    refine congrArg List.length (List.filter_congr fun v _ => ?_)
    cases hv : (s.memberDown m health order).copies[g][v].occupied with
    | false => rfl
    | true => rw [Bool.true_and, Bool.true_and, decide_eq_decide.2 (horder v w hv ho)]
  · have htracker : (s.memberDown m health order).tracker = (s.afterDeparture m health order).tracker := by
      rw [State.memberDown_eq]
      rfl
    rw [htracker]
    exact ⟨hgen, hnext⟩
  · rw [hwatch', WatchUnit.fireAll_entries]
    simp only [harmed]
    by_cases h : s.watch.entries[i].state = .armed ∧
        s.watch.entries[i].key.toNat % s.formation.members.length = m.rank
    · rw [if_pos h, if_pos ⟨h, by rw [h.1]; nofun⟩]
      rfl
    · rw [if_neg h, if_neg fun hh => h hh.1]
  · obtain ⟨new, hfired, hnodup, hascend, hmem⟩ := s.watch.fireAll_fired
      (fun w => w.armed && s.formation.homedAtRank m.rank w.key)
      { reason := .homeDown, origin := m.station, record := .cleared }
    refine ⟨new, by rw [hwatch', hfired], hnodup, hascend, fun i => (hmem i).trans ?_⟩
    rw [harmed]
    exact ⟨fun h => h.1, fun h => ⟨h, h.1⟩⟩
  · have hengine := State.endAll_engine (s.markDown m health) .homeDown ((s.departing m order).map .inl)
    rw [State.memberDown_eq]
    exact hengine

/-- What a withdrawal is depends on the blocks behind the Formation Controller and on how many members there are. -/
theorem MemberWithdrawn.congr {s s' t t' : State} {m : Member} (h : MemberWithdrawn s' t' m)
    (members : s'.formation.members.length = s.formation.members.length) (copies : s'.copies = s.copies)
    (slots : s'.slots = s.slots) (tracker : s'.tracker = s.tracker) (watch : s'.watch = s.watch)
    (engine : s'.engine = s.engine) (port : s'.port = { s.port with fresh := s'.port.fresh })
    (copies' : t.copies = t'.copies) (slots' : t.slots = t'.slots) (tracker' : t.tracker = t'.tracker)
    (watch' : t.watch = t'.watch) (engine' : t.engine = t'.engine) (port' : t.port = t'.port) :
    MemberWithdrawn s t m := by
  have hrecords (p : PendingEntry → Bool) (o : CmdOutcome) : s'.endedRecords p o = s.endedRecords p o := by
    rw [State.endedRecords, State.endedRecords, tracker]
  obtain ⟨h1, h2, h3, h4, h5, h6, h7, ⟨new, hperm, hport⟩, h9, h10, h11⟩ := h
  rw [members, copies, ← copies'] at h1 h2
  rw [tracker] at h2 h4 h5 h6 h7
  rw [copies, ← copies'] at h3
  rw [slots, ← slots'] at h4 h5
  rw [members] at h5 h9 h10
  rw [← tracker'] at h6 h7
  rw [watch, ← watch'] at h9 h10
  rw [engine, ← engine'] at h11
  refine ⟨h1, h2, h3, h4, h5, h6, h7, ⟨new, hrecords _ _ ▸ hperm, ?_⟩, h9, h10, h11⟩
  rw [port', hport, port]

/-- The REQ line alone follows an event (R102). -/
theorem State.refreshReq_span_of_eq {s t : State} (h : t.span = s.span) :
    t.refreshReq.span = { s.span with req := t.refreshReq.span.req } := by
  rw [← h]
  rfl

/-- Settles O39: `State.memberDown_withdrawn` says what every block does. -/
theorem silentMemberIsWithdrawn : Obligations.SilentMemberIsWithdrawn := by
  intro s m order hlive hmember hfind hup hthree
  have hdue : m.dueSilent = true := by
    rw [Member.dueSilent, hup, Bool.and_eq_true, decide_eq_true_eq]
    exact ⟨rfl, hthree⟩
  have hexec : exec (.memberSilent m.station order) s = .next (s.memberDown m .silent order).refreshReq := by
    change Host.Outcome.next (s.limitRow fun s => s.memberSilentAt m.station order) = _
    rw [State.limitRow_of_live hlive, State.memberSilentAt, hfind]
    simp only [hmember, hdue, and_self, if_true]
  obtain ⟨hclock, hpins, hspan, hformation, hhome, -, hpending, -, -, hseen⟩ := (s.markDown m .silent).endAll_entries_frame .homeDown (s.departing m order)
  have hdown := s.memberDown_eq m .silent order
  refine ⟨_, hexec, ?_, ?_, ?_, ?_, ?_, ?_, ?_, ?_⟩
  · rw [State.refreshReq_formation, hdown]
    exact hformation
  · exact (s.memberDown_withdrawn m .silent order).congr rfl rfl rfl rfl rfl rfl rfl rfl rfl rfl rfl rfl rfl
  · rw [State.refreshReq_home, hdown]
    exact hhome
  · exact State.refreshReq_span_of_eq (hdown ▸ hspan)
  · rw [State.refreshReq_clock, hdown]
    exact hclock
  · rw [State.refreshReq_pins, hdown]
    exact hpins
  · rw [State.refreshReq_seen, hdown]
    exact hseen
  · rw [State.refreshReq_pending, hdown]
    exact hpending

end Sys2Proof.Machine
end

section
/-! PROOFS. Sets of stations: what a bitmap built from stations holds (R121, R137). -/

namespace Sys2Proof.Machine

theorem stationBit_getLsbD (st n : Station) : (stationBit st).getLsbD n.toNat = (st == n) := by
  have h : ∀ st n : Station, (1#16 <<< st.toNat).getLsbD n.toNat = (st == n) := by decide
  exact h st n

theorem foldl_stationBit_getLsbD (ms : List Member) (b : StationSet) (n : Station) :
    (ms.foldl (fun b m => b ||| stationBit m.station) b).getLsbD n.toNat =
      (b.getLsbD n.toNat || ms.any fun m => m.station == n) := by
  induction ms generalizing b with
  | nil => simp
  | cons m ms ih =>
    rw [List.foldl_cons, ih, BitVec.getLsbD_or, stationBit_getLsbD, List.any_cons, Bool.or_assoc]

theorem bitmapOf_getLsbD (ms : List Member) (n : Station) :
    (bitmapOf ms).getLsbD n.toNat = true ↔ ∃ m ∈ ms, m.station = n := by
  rw [bitmapOf, foldl_stationBit_getLsbD]
  simp

/-- Two bitmaps that hold the same stations are the same. -/
theorem stationSet_ext {a b : StationSet} (h : ∀ n : Station, a.getLsbD n.toNat = true ↔ b.getLsbD n.toNat = true) :
    a = b := by
  refine BitVec.eq_of_getLsbD_eq fun i hi => ?_
  have hn : (BitVec.ofNat 4 i).toNat = i := by
    rw [BitVec.toNat_ofNat]
    omega
  have hbit := h (BitVec.ofNat 4 i)
  rw [hn] at hbit
  exact Bool.eq_iff_iff.2 hbit

/-- The bitmap of a MEMBER holds its members (R137). -/
theorem FormationController.eq_memberBitmap_iff {fc : FormationController} (h : fc.state = .member) (b : StationSet) :
    b = fc.memberBitmap ↔ ∀ n : Station, b.getLsbD n.toNat = true ↔ ∃ m ∈ fc.members, m.station = n := by
  rw [FormationController.memberBitmap, if_pos h]
  refine ⟨fun hb n => by rw [hb, bitmapOf_getLsbD], fun hb => stationSet_ext fun n => ?_⟩
  rw [hb n, bitmapOf_getLsbD]

/-- A change of a member's health or count leaves the bitmap. -/
theorem FormationController.memberBitmap_modify (fc : FormationController) (st : Station) {g : Member → Member}
    (h : ∀ m, (g m).station = m.station) : (fc.modify st g).memberBitmap = fc.memberBitmap := by
  have hstation (m : Member) : (if m.station = st then g m else m).station = m.station := by
    split
    · exact h m
    · rfl
  rw [FormationController.memberBitmap, FormationController.memberBitmap, FormationController.modify]
  simp only [bitmapOf, List.foldl_map, hstation]

theorem State.evidence_memberBitmap (s : State) (st : Station) :
    (s.evidence st).formation.memberBitmap = s.formation.memberBitmap := by
  rw [State.evidence]
  split
  · exact FormationController.memberBitmap_modify _ _ fun m => m.station_alive _
  · rfl

end Sys2Proof.Machine
end

section
/-! PROOFS. A re-close that excludes a MEMBER, and a taken REFORM: what every block gives up (R38, R131, R132, R134 to
R136). -/

namespace Sys2Proof.Machine

/-! ### Exclusion of a MEMBER -/

/-- The pending entries in use, in the order that the codes choose. -/
def State.pendingEnds (s : State) (order : List Nat) : List (Fin 8 ⊕ HostTag) :=
  (arrange order (s.tracker.indices fun _ => true)).map .inl

theorem State.mem_pendingEnds (s : State) (order : List Nat) (i : Fin 8) :
    Sum.inl i ∈ s.pendingEnds order ↔ ∃ e, s.tracker.entries[i] = some e := by
  have hmem : i ∈ arrange order (s.tracker.indices fun _ => true) ↔ i ∈ s.tracker.indices fun _ => true :=
    (arrange_perm order _).mem_iff
  rw [State.pendingEnds, List.mem_map_of_injective Sum.inl_injective, hmem, RequestTracker.mem_indices]
  simp only [and_true]

/-- Every block of a MEMBER that is excluded gives up its work (R38, R58, R74, R95). -/
theorem State.exclude_of_member {s : State} (h : s.formation.state = .member) (epoch : Epoch) (order : List Nat) :
    s.exclude epoch order = { s.endAll .notMember (s.pendingEnds order) with
      formation := s.formation.excluded epoch
      home := { store := storeClearMarks s.home.store, inbound := [], heldPlace := false, outbound := [] }
      copies := .afterReset
      slots := (s.endAll .notMember (s.pendingEnds order)).slots.mapIdx fun _ x => { x with state := .empty }
      engine := (s.endAll .notMember (s.pendingEnds order)).engine.retest } := by
  obtain ⟨-, -, -, hformation, hhome, -⟩ :=
    s.endAll_entries_frame .notMember (arrange order (s.tracker.indices fun _ => true))
  rw [State.exclude, if_pos h, State.abandonMembership, State.failAll_eq_endAll, ← State.pendingEnds]
  rw [← State.pendingEnds] at hformation hhome
  rw [← hformation, ← hhome]
  rfl

/-- The commands in flight when every entry ends (R88, R95). -/
theorem State.endAll_pendingEnds (s : State) (o : CmdOutcome) (order : List Nat) :
    (∀ i : Fin 8, (s.endAll o (s.pendingEnds order)).tracker.entries[i] = none) ∧
    (∀ n : Fin 4, { (s.endAll o (s.pendingEnds order)).slots[n] with state := .empty } =
      { s.slots[n] with state := SlotState.empty }) ∧
    ∃ new : List QueueRecord, new.Perm (s.endedRecords (fun _ => true) o) ∧
      (s.endAll o (s.pendingEnds order)).port = { s.port with
        completions := s.port.completions ++ new
        outstanding := s.port.outstanding - new.length
        fresh := (s.endAll o (s.pendingEnds order)).port.fresh } := by
  have honce : EndsOnce (s.pendingEnds order) :=
    endsOnce_entries ((arrange_perm order _).nodup_iff.2 (s.tracker.indices_nodup _))
  refine ⟨fun i => ?_, fun n => ?_, (s.pendingEnds order).filterMap (s.endRecord o), ?_, ?_⟩
  · obtain ⟨hends, hstays⟩ := s.endAll_entries o (s.pendingEnds order) i
    by_cases h : Sum.inl i ∈ s.pendingEnds order
    · exact hends h
    · rw [hstays h]
      exact Option.eq_none_iff_forall_ne_some.2 fun e he => h ((s.mem_pendingEnds order i).2 ⟨e, he⟩)
  · obtain ⟨hnamed, hother⟩ := s.endAll_slots o (s.pendingEnds order) n
    by_cases h : s.EndNames (s.pendingEnds order) n
    · rw [hnamed h]
    · rw [hother h]
  · refine (((arrange_perm order _).map Sum.inl).filterMap (s.endRecord o)).trans ?_
    rw [s.filterMap_endRecord_indices]
  · rw [State.endAll_port o honce]

/-- Settles O59: the re-close excludes the MEMBER, which gives up its work by `State.exclude_of_member`. -/
theorem excludedMemberGivesUpItsWork : Obligations.ExcludedMemberGivesUpItsWork := by
  intro s winner f ack rty order hclosing law hsynced hmember hcode hreclose _ same hcase
  have hkind : f.kind = some .close := Frame.kind_of_code hcode
  have hexec : exec (.responseWindowClose ack rty false order) s =
      .next (((s.windowClosed (some f.sender)).evidence f.sender).exclude f.epoch order).refreshReq := by
    have hclosed : (s.windowClosed (some f.sender)).formation.state = .member := hmember
    have hepoch : ((s.windowClosed (some f.sender)).evidence f.sender).formation.epoch = s.formation.epoch := by
      rw [State.evidence_frame]
      rfl
    have hbitmap : ((s.windowClosed (some f.sender)).evidence f.sender).formation.memberBitmap =
        s.formation.memberBitmap := State.evidence_memberBitmap _ _
    have hpins : ((s.windowClosed (some f.sender)).evidence f.sender).pins = s.pins := State.evidence_pins _ _
    rw [exec_responseWindowClose_of_closingWindow hclosing hsynced, frameOutcome_taken (.inr (.inr hcode))]
    simp only [State.handOn, hclosed, if_true, State.takeAtMember, hkind, State.closeAtMember, State.closeAgrees,
      hepoch, hbitmap, hpins, hreclose]
    rcases hcase with ⟨hsame, hbits⟩ | ⟨hother, hout⟩
    · have hne : f.key ≠ s.formation.memberBitmap := fun h =>
        hbits ((FormationController.eq_memberBitmap_iff hmember f.key).1 h)
      simp [hsame, hne]
    · simp [hother, inSet, hout]
  have hmember' : ((s.windowClosed (some f.sender)).evidence f.sender).formation.state = .member :=
    (State.evidence_state _ _).trans hmember
  have hframe := State.evidence_frame (s.windowClosed (some f.sender)) f.sender
  generalize (s.windowClosed (some f.sender)).evidence f.sender = u at hexec hmember' hframe
  obtain ⟨-, -, -, -, -, hwatch, -, hgen, hnext, -⟩ :=
    u.endAll_entries_frame .notMember (arrange order (u.tracker.indices fun _ => true))
  obtain ⟨hentries, hslots, new, hperm, hport⟩ := u.endAll_pendingEnds .notMember order
  have hengine := u.endAll_engine .notMember (u.pendingEnds order)
  rw [State.exclude_of_member hmember'] at hexec
  have hclear (k : Key) := storeGet_storeClearMarks law.store_canonical (j := k.toNat)
  have hstore : u.home.store = s.home.store := by rw [hframe]; rfl
  have hrecords : u.endedRecords (fun _ => true) .notMember = s.endedRecords (fun _ => true) .notMember := by
    rw [hframe]
    rfl
  refine ⟨_, hexec, ?_, fun k => ⟨?_, ?_⟩, rfl, rfl, fun g w => ?_, fun n => ?_, hentries, ?_, ?_,
    ⟨new, hrecords ▸ hperm, ?_⟩, ?_, ?_⟩
  · rw [hframe]
    rfl
  · change (storeGet (storeClearMarks u.home.store) k.toNat).committed = _
    rw [hstore, hclear]
    rfl
  · change (storeGet (storeClearMarks u.home.store) k.toNat).publishing = _
    rw [hstore, hclear]
  · simp [CopyTable.afterReset]
  · refine Eq.trans ?_ ((hslots n).trans (by rw [hframe]; rfl))
    simp
  · exact hgen.trans (by rw [hframe]; rfl)
  · exact hnext.trans (by rw [hframe]; rfl)
  · refine hport.trans ?_
    rw [hframe]
    rfl
  · exact hwatch.trans (by rw [hframe]; rfl)
  · exact hengine.trans (by rw [hframe]; rfl)

/-! ### A taken REFORM -/

/-- The own ROLL, CLOSE or REFORM, taken: it leaves the candidates and is then handed on (R112). -/
theorem State.closeHeard_ownFormation {s : State} (hplace : s.home.heldPlace = false) {f : Frame}
    (hvalue : f.long = false → f.value = zeroValue) {kind : FrameKind}
    (hformation : kind ∈ ([.roll, .close, .reform] : List FrameKind)) (hkind : f.kind = some kind) (ack rty : Bool)
    (order : List Nat) :
    s.closeHeard (some { source := .formation kind, frame := f }) f.bytes { ack := ack, rty := rty, chk := false }
        order =
      ((s.formationSent kind .taken).handOn f .taken true order).requeueReform
        { source := .formation kind, frame := f } .taken := by
  have hsent : (s.formationSent kind .taken).home.heldPlace = false := by
    cases kind <;> exact hplace
  simp only [List.mem_cons, List.not_mem_nil, or_false] at hformation
  rcases hformation with rfl | rfl | rfl <;>
    simp [State.closeHeard, f.frameIntact_bytes, Frame.ofBytes_bytes hvalue, State.targetEvidence, hkind,
      frameOutcome, State.ownSent, State.settlePlace_of_free hsent]

/-- A REFORM of another epoch than the own or heard one is taken in every station state (R135). -/
theorem State.handOn_reform (s : State) {f : Frame} (hkind : f.kind = some .reform) (isOwn : Bool) (order : List Nat) :
    s.handOn f .taken isOwn order =
      if f.epoch = s.formation.epoch then s else s.takeReform f.sender f.epoch order := by
  cases hstate : s.formation.state with
  | listen | rolled => simp [State.handOn, hstate, State.takeForming, hkind]
  | member => simp [State.handOn, hstate, State.takeAtMember, hkind]
  | excluded =>
    by_cases hepoch : f.epoch = s.formation.epoch
    · have hheard : s.handOn f .taken isOwn order = { s with formation := { s.formation with epoch := f.epoch } } := by
        simp [State.handOn, hstate, State.hearExcluded, hepoch]
      rw [hheard, if_pos hepoch, hepoch]
    · simp [State.handOn, hstate, State.hearExcluded, hkind, hepoch]

/-- The close of the window of a taken REFORM, another station's or the own (R134 to R136). -/
theorem exec_responseWindowClose_of_reform {s : State} {winner : Option Station} {own : Option OwnFrame} {f : Frame}
    (h : s.closingFrame winner own f) (hcode : f.code = 3)
    (hown : own = none ∨ own = some { source := .formation .reform, frame := f }) (ack rty : Bool) (order : List Nat) :
    exec (.responseWindowClose ack rty false order) s = .next
      (if f.epoch = s.formation.epoch then
        { s.heardAtClose f.sender with
          formation :=
            if own ≠ none ∧ s.formation.reform ≠ none then
              { (s.heardAtClose f.sender).formation with reform := some (s.formation.epoch + 1) }
            else (s.heardAtClose f.sender).formation }
      else (s.heardAtClose f.sender).takeReform f.sender f.epoch order).refreshReq := by
  have ⟨_, _, hvalue, hfree, _, _⟩ := h
  obtain ⟨-, hhome, -⟩ := s.heardAtClose_frame f.sender
  have hplace : (s.heardAtClose f.sender).home.heldPlace = false := (congrArg HomeEngine.heldPlace hhome).trans hfree
  have hkind : f.kind = some .reform := Frame.kind_of_code hcode
  have hepoch : (s.heardAtClose f.sender).formation.epoch = s.formation.epoch := by rw [State.heardAtClose_formation]
  have hreform : (s.heardAtClose f.sender).formation.reform = s.formation.reform := by
    rw [State.heardAtClose_formation]
  rw [exec_responseWindowClose_of_closingFrame h]
  refine congrArg (fun u : State => Host.Outcome.next u.refreshReq) ?_
  rcases hown with rfl | rfl
  · rw [State.closeHeard_other hplace hvalue, hkind, frameOutcome, if_neg (by nofun), State.handOn_reform _ hkind, hepoch]
    split
    · exact congrArg (fun fc => { s.heardAtClose f.sender with formation := fc })
        (if_neg fun hh : none ≠ none ∧ _ => hh.1 rfl).symm
    · rfl
  · rw [State.closeHeard_ownFormation hplace hvalue (by simp) hkind, State.formationSent, if_pos rfl,
      State.handOn_reform _ hkind, hepoch]
    split
    · simp only [State.requeueReform, hreform, hepoch, Option.isSome_iff_ne_none, ne_eq, reduceCtorEq,
        not_false_eq_true, true_and]
      split <;> rfl
    · exact if_neg fun hh => nomatch hh.2.2

/-- Settles O60. -/
theorem takenReformClearsEveryBlock : Obligations.TakenReformClearsEveryBlock := by
  constructor
  · intro s winner own f ack rty order hclosing hcode _ hepoch hown
    have hexec := exec_responseWindowClose_of_reform hclosing hcode hown ack rty order
    rw [if_neg hepoch] at hexec
    obtain ⟨-, -, -, -, htracker, hwatch, hengine, hport⟩ := s.heardAtClose_frame f.sender
    have hsynced := s.heardAtClose_synced f.sender
    have hlast := s.heardAtClose_lastWinner f.sender
    have hlate : (s.heardAtClose f.sender).formation.lateRoll = s.formation.lateRoll := by
      rw [State.heardAtClose_formation]
    have htags : (s.heardAtClose f.sender).formation.reformTags = s.formation.reformTags := by
      rw [State.heardAtClose_formation]
    generalize s.heardAtClose f.sender = u at hexec htracker hwatch hengine hport hsynced hlast hlate htags
    obtain ⟨-, -, hspan, -, -, -, -, -, hgen, hnext⟩ :=
      State.reformCompletions_frame (arrange order u.reformEnds) u
    have hports := State.endAll_port .reformed ((endsOnce_reformEnds u).perm (arrange_perm order u.reformEnds).symm) u
    have hengines := u.endAll_engine .reformed (arrange order u.reformEnds)
    have hentries := u.endAll_reformEnds_entries .reformed order
    have hrecords : u.endedRecords (fun _ => true) .reformed = s.endedRecords (fun _ => true) .reformed := by
      rw [State.endedRecords, State.endedRecords, htracker]
    rw [State.takeReform_eq] at hexec
    rw [← State.reformCompletions_eq_endAll] at hports hengines hentries
    have hwatch' : u.watch.fireAll WatchEntry.inUse { reason := .reformed, origin := f.sender, record := .cleared } =
        s.watch.fireAll WatchEntry.inUse { reason := .reformed, origin := f.sender, record := .cleared } := by
      rw [hwatch]
    refine ⟨_, hexec, ?_, fun k => ⟨rfl, rfl⟩, rfl, rfl, rfl, fun g w => ?_, fun n => ?_, hentries, ?_, ?_, fun i => ?_,
      ?_, ⟨(arrange order u.reformEnds).filterMap (u.endRecord .reformed), ?_, ?_⟩, ?_, ?_, ?_⟩
    · rw [← hlate]
      rfl
    · simp [CopyTable.afterReset]
    · simp [Slot.afterReset, Slot.cleared]
    · exact hgen.trans (by rw [htracker])
    · exact hnext.trans (by rw [htracker])
    · rw [State.refreshReq_watch, hwatch', WatchUnit.fireAll_entries]
      simp only [WatchEntry.inUse_iff, and_self]
      by_cases h : s.watch.entries[i].state = .free
      · rw [if_pos h, if_neg (not_not_intro h)]
      · rw [if_neg h, if_pos h]
        rfl
    · obtain ⟨new, hfired, hnodup, hascend, hmem⟩ := s.watch.fireAll_fired WatchEntry.inUse
        { reason := .reformed, origin := f.sender, record := .cleared }
      refine ⟨new, by rw [State.refreshReq_watch, hwatch', hfired], hnodup, hascend, fun i => (hmem i).trans ?_⟩
      rw [WatchEntry.inUse_iff]
      exact ⟨fun h => h.2, fun h => ⟨by rw [h]; nofun, h⟩⟩
    · refine ((arrange_perm order u.reformEnds).filterMap _).trans ?_
      rw [u.filterMap_endRecord_reformEnds, hrecords, htags]
    · rw [State.refreshReq_port]
      exact hports.trans (by rw [hports, hport])
    · exact (congrArg SpanInterface.synced hspan).trans hsynced
    · exact (congrArg SpanInterface.lastWinner hspan).trans hlast
    · exact hengines.trans (by rw [hengine])
  · intro s winner own f ack rty order hclosing hsynced hcode _ hepoch hown
    have hclosed : s.heardAtClose f.sender = s.windowClosed (some f.sender) := if_pos hsynced
    rw [exec_responseWindowClose_of_reform hclosing hcode hown, if_pos hepoch, hclosed]
    rfl

end Sys2Proof.Machine
end

section
/-! PROOFS. The re-close timer and the ROLL at a MEMBER (R128, R129), the ROLL at a forming station (R120 to R123), and
the formation's timers (R122). -/

namespace Sys2Proof.Machine

/-! ### The re-close timer -/

/-- The re-close timer starts at 100 µs + 300 µs × r, unless a re-close is queued (R128). -/
theorem State.startReclose_eq (s : State) (roller : Station) :
    s.startReclose roller = { s with formation := { s.formation with
      recloseTimer :=
        if s.formation.close = none then
          some (s.clock + 5000 + 15000 * s.formation.recloseRank s.pins.station roller)
        else s.formation.recloseTimer } } := by
  cases hclose : s.formation.close with
  | none =>
    rw [if_pos rfl, State.startReclose.eq_def, hclose]
    simp only [Timing.recloseDelay, Timing.us, Nat.reduceMul, Nat.add_assoc]
  | some c => rw [if_neg (by nofun), State.startReclose.eq_def, hclose]

/-- The roller itself does not count for the delay (R128). -/
theorem FormationController.recloseRank_modify (fc : FormationController) (self roller : Station) {g : Member → Member}
    (h : ∀ m, (g m).station = m.station) : (fc.modify roller g).recloseRank self roller = fc.recloseRank self roller := by
  rw [FormationController.recloseRank, FormationController.recloseRank, FormationController.modify, List.filter_map,
    List.length_map]
  refine congrArg List.length (List.filter_congr fun m _ => ?_)
  by_cases hm : m.station = roller <;> simp [hm, h]

/-! ### A ROLL at a MEMBER -/

theorem FormationController.find_eq_none_iff (fc : FormationController) (st : Station) :
    fc.find st = none ↔ ∀ m ∈ fc.members, m.station ≠ st := by
  simp [FormationController.find]

/-- The roller's table entry is LOST from now on, a stranger is noted in LATE_ROLL (R128). -/
theorem State.markRoller_formation {s : State} (law : MemberLaw s) {roller : Station} (h : roller ≠ s.pins.station)
    (order : List Nat) :
    (s.markRoller roller order).formation = { s.formation with
      members := s.formation.members.map fun x => if x.station = roller then { x with health := .lost } else x
      lateRoll := s.formation.lateRoll || s.formation.members.all fun x => x.station != roller } := by
  have hall : (s.formation.members.all fun x => x.station != roller) = (s.formation.find roller).isNone := by
    rw [Bool.eq_iff_iff, List.all_eq_true, Option.isNone_iff_eq_none, FormationController.find_eq_none_iff]
    simp only [bne_iff_ne]
  rw [hall, State.markRoller.eq_def]
  cases hfind : s.formation.find roller with
  | none =>
    have hmap : (s.formation.members.map fun x => if x.station = roller then { x with health := .lost } else x) =
        s.formation.members.map id := List.map_congr_left fun x hx =>
      if_neg ((FormationController.find_eq_none_iff _ _).1 hfind x hx)
    simp [hmap]
  | some m =>
    obtain ⟨hm, hstation⟩ := FormationController.find_spec hfind
    simp only [hstation, h, or_false, Option.isNone_some, Bool.or_false]
    split
    next hlost =>
      have hmap : (s.formation.members.map fun x => if x.station = roller then { x with health := .lost } else x) =
          s.formation.members.map id := List.map_congr_left fun x hx => by
        split
        next hx' =>
          rw [law.eq_of_station_eq hx hm (hx'.trans hstation.symm), ← hlost]
          rfl
        next => rfl
      simp [hmap]
    next =>
      rw [(s.memberDown_formation m .lost order).1, hstation]
      rfl

/-- A roller leaves the clock, the pins, the Span Interface and the Home Engine. -/
theorem State.markRoller_frame (s : State) (roller : Station) (order : List Nat) :
    (s.markRoller roller order).clock = s.clock ∧ (s.markRoller roller order).pins = s.pins ∧
      (s.markRoller roller order).span = s.span ∧ (s.markRoller roller order).home = s.home := by
  rw [State.markRoller]
  split
  next m _ =>
    split
    · exact ⟨rfl, rfl, rfl, rfl⟩
    · obtain ⟨hclock, hpins, hspan, -, hhome, -⟩ := (s.markDown m .lost).endAll_entries_frame .homeDown
        (s.departing m order)
      rw [State.memberDown_eq]
      exact ⟨hclock, hpins, hspan, hhome⟩
  · exact ⟨rfl, rfl, rfl, rfl⟩

/-- A member that is not LOST yet withdraws, a stranger or a LOST member changes no block (R128). -/
theorem State.markRoller_blocks (s : State) {roller : Station} (h : roller ≠ s.pins.station) (order : List Nat) :
    (∀ m, s.formation.find roller = some m → m.health ≠ .lost → MemberWithdrawn s (s.markRoller roller order) m) ∧
    ((∀ m, s.formation.find roller = some m → m.health = .lost) →
      ∃ fc, s.markRoller roller order = { s with formation := fc }) := by
  rw [State.markRoller.eq_def]
  cases hfind : s.formation.find roller with
  | none => exact ⟨fun m hm => (nomatch hm), fun _ => ⟨_, rfl⟩⟩
  | some m =>
    obtain ⟨-, hstation⟩ := FormationController.find_spec hfind
    simp only [hstation, h, or_false, Option.some.injEq, forall_eq']
    refine ⟨fun hlost => ?_, fun hlost => ⟨s.formation, ?_⟩⟩
    · rw [if_neg hlost]
      exact s.memberDown_withdrawn m .lost order
    · rw [if_pos hlost]

theorem MemberLaw.find_eq_some_iff {s : State} (law : MemberLaw s) {st : Station} {m : Member} :
    s.formation.find st = some m ↔ m ∈ s.formation.members ∧ m.station = st := by
  refine ⟨FormationController.find_spec, fun ⟨hm, hst⟩ => ?_⟩
  cases hfind : s.formation.find st with
  | none => exact absurd hst ((FormationController.find_eq_none_iff _ _).1 hfind m hm)
  | some x =>
    obtain ⟨hx, hxst⟩ := FormationController.find_spec hfind
    rw [law.eq_of_station_eq hx hm (hxst.trans hst.symm)]

/-- Settles O57: the roller is marked by `State.markRoller`, and the timer's rank leaves it out in any health. -/
theorem lateRollStartsTheReclose : Obligations.LateRollStartsTheReclose := by
  intro s winner f ack rty order hclosing law hsynced hmember hself hcode _ now lower
  have hkind : f.kind = some .roll := Frame.kind_of_code hcode
  have hexec : exec (.responseWindowClose ack rty false order) s =
      .next (((s.windowClosed (some f.sender)).markRoller f.sender order).startReclose f.sender).refreshReq := by
    have hclosed : (s.windowClosed (some f.sender)).formation.state = .member := hmember
    rw [exec_responseWindowClose_of_closingWindow hclosing hsynced, hkind]
    simp only [State.handOn, hclosed, State.takeAtMember, hkind, State.rollAtMember]
    rfl
  have hlaw : MemberLaw (s.windowClosed (some f.sender)) := .of_eq (s := s) rfl rfl law
  have hformation := State.markRoller_formation hlaw hself order
  obtain ⟨hclock, hpins, hspan, hhome⟩ := (s.windowClosed (some f.sender)).markRoller_frame f.sender order
  obtain ⟨hwithdrawn, hstays⟩ := (s.windowClosed (some f.sender)).markRoller_blocks hself order
  have hrank : ((s.windowClosed (some f.sender)).markRoller f.sender order).formation.recloseRank s.pins.station
      f.sender = lower := by
    rw [hformation]
    exact FormationController.recloseRank_modify s.formation s.pins.station f.sender
      (g := fun x => { x with health := .lost }) fun _ => rfl
  rw [State.startReclose_eq] at hexec
  refine ⟨_, hexec, ?_, fun m hm hst hlost => ?_, fun hlost => ?_, hhome, congrArg SpanInterface.lastWinner hspan⟩
  · rw [State.refreshReq_formation]
    dsimp only
    rw [hpins, hclock]
    rw [show (s.windowClosed (some f.sender)).pins.station = s.pins.station from rfl, hrank, hformation]
    rfl
  · exact (hwithdrawn m (hlaw.find_eq_some_iff.2 ⟨hm, hst⟩) hlost).congr rfl rfl rfl rfl rfl rfl rfl rfl rfl rfl rfl rfl
      rfl
  · obtain ⟨fc, hfc⟩ := hstays fun m hm => by
      obtain ⟨hm, hst⟩ := hlaw.find_eq_some_iff.1 hm
      exact hlost m hm hst
    rw [hfc]
    exact ⟨rfl, rfl, rfl, rfl, rfl, rfl⟩

/-! ### A ROLL at a forming station -/

/-- The low side of the roll list (R122). -/
theorem rankIn_eq (b : StationSet) (st : Station) :
    rankIn b st = (allStations.filter fun n => decide (n.toNat < st.toNat) && b.getLsbD n.toNat).length := by
  rw [rankIn, stationsOf, List.filter_filter]
  rfl

theorem mem_rollList_addRoll (fc : FormationController) (sender : Station) (proposal : Epoch) (n : Station) :
    (fc.addRoll sender proposal).rollList.getLsbD n.toNat = true ↔
      fc.rollList.getLsbD n.toNat = true ∨ n = sender := by
  rw [FormationController.addRoll, BitVec.getLsbD_or, stationBit_getLsbD, Bool.or_eq_true, beq_iff_eq, eq_comm (a := n)]

theorem highest_addRoll (fc : FormationController) (sender : Station) (proposal : Epoch) :
    (fc.addRoll sender proposal).highest.toNat = max fc.highest.toNat proposal.toNat := by
  simp only [FormationController.addRoll, BitVec.lt_def]
  split <;> omega

/-- The Formation Controller of a forming station once a ROLL is recorded (R120 to R123). -/
theorem State.recordRoll_eq {s : State} (h : s.formation.Forming) (f : Frame) (isOwn : Bool) :
    let state := if isOwn = true then .rolled else s.formation.state
    let joined := s.formation.addRoll f.sender f.aux
    s.recordRoll f isOwn = { s with formation := { joined with
      state := state
      close := none
      closeTimer :=
        if state = .rolled then some (s.clock + 300000 + 25000 * rankIn joined.rollList s.pins.station)
        else s.formation.closeTimer } } := by
  have hdelay (r : Nat) : s.clock + Timing.closeDelay r = s.clock + 300000 + 25000 * r := by
    simp only [Timing.closeDelay, Timing.us, Nat.reduceMul, Nat.add_assoc]
  rcases h with h | h <;> cases isOwn <;>
    simp [State.recordRoll, FormationController.addRoll, FormationController.startClose, h, hdelay]

/-- The ROLL candidate at the close of a frame heard whole (R103, R119). -/
theorem State.heardAtClose_roll (s : State) (n : Station) :
    (s.heardAtClose n).formation.roll =
      if s.span.synced = false ∧ s.formation.state = .listen then some s.formation.proposal
      else s.formation.roll := by
  rw [State.heardAtClose]
  cases s.span.synced with
  | true => rfl
  | false =>
    simp only [State.becomeSynced, Bool.false_eq_true, if_false, true_and]
    split
    next hlisten => exact (if_pos hlisten).symm
    next hlisten => exact (if_neg hlisten).symm

/-- The close of the window of a ROLL at a forming station, another station's or the own. -/
theorem exec_responseWindowClose_of_roll {s : State} {winner : Option Station} {own : Option OwnFrame} {f : Frame}
    (h : s.closingFrame winner own f) (hforming : s.formation.Forming) (hcode : f.code = 1)
    (hown : own = none ∨ own = some { source := .formation .roll, frame := f }) (ack rty : Bool) (order : List Nat) :
    exec (.responseWindowClose ack rty false order) s = .next
      (({ s.heardAtClose f.sender with formation := { s.formation with
        roll := if own ≠ none then none else (s.heardAtClose f.sender).formation.roll } } : State).recordRoll f
          own.isSome).refreshReq := by
  have ⟨_, _, hvalue, hfree, _, _⟩ := h
  obtain ⟨-, hhome, -⟩ := s.heardAtClose_frame f.sender
  have hplace : (s.heardAtClose f.sender).home.heldPlace = false := (congrArg HomeEngine.heldPlace hhome).trans hfree
  have hkind : f.kind = some .roll := Frame.kind_of_code hcode
  have hclosed : (s.heardAtClose f.sender).formation.Forming := s.heardAtClose_forming hforming _
  have hformation := s.heardAtClose_formation f.sender
  have htake (u : State) (isOwn : Bool) : u.takeForming f isOwn order = u.recordRoll f isOwn := by
    rw [State.takeForming, hkind]
  rw [exec_responseWindowClose_of_closingFrame h]
  rcases hown with rfl | rfl
  · rw [State.closeHeard_other hplace hvalue, hkind, frameOutcome, if_neg (by nofun), State.handOn_taken hclosed, htake,
      if_neg (by simp), ← hformation]
    rfl
  · have hsent : ((s.heardAtClose f.sender).formationSent .roll .taken) =
        { s.heardAtClose f.sender with formation := { s.formation with roll := none } } := by
      rw [State.formationSent, if_pos rfl, hformation]
    rw [State.closeHeard_ownFormation hplace hvalue (by simp) hkind, hsent, State.handOn_taken (by exact hforming), htake,
      State.requeueReform, if_neg (by simp), if_pos (by simp)]
    rfl

/-- Settles O55. -/
theorem takenRollJoinsTheRollList : Obligations.TakenRollJoinsTheRollList := by
  intro s winner own f ack rty order hclosing hforming hcode _ hown now state
  have hexec := exec_responseWindowClose_of_roll hclosing hforming hcode hown ack rty order
  have hstate : state = if own.isSome = true then .rolled else s.formation.state := by
    cases own <;> rfl
  have hnow : (s.heardAtClose f.sender).clock = now := by
    rw [State.heardAtClose]
    split <;> rfl
  obtain ⟨hpins, hhome, hcopies, hslots, htracker, hwatch, hengine, hport⟩ := s.heardAtClose_frame f.sender
  have hsynced := s.heardAtClose_synced f.sender
  have hlast := s.heardAtClose_lastWinner f.sender
  rw [State.recordRoll_eq (by exact hforming), s.heardAtClose_roll] at hexec
  refine ⟨_, hexec, fun n => mem_rollList_addRoll s.formation f.sender f.aux n, highest_addRoll s.formation f.sender f.aux,
    rfl, ?_, hstate.symm, rfl, rfl, rfl, rfl, hsynced, hlast, hhome, hcopies, hslots, htracker, hwatch, hengine, hport⟩
  rw [← rankIn_eq, hstate, ← hnow]
  dsimp only [State.refreshReq_formation]
  rw [s.heardAtClose_pins]

/-! ### The formation's timers -/

/-- What a MEMBER does with a taken CLOSE that does not exclude it, another station's or its own (R129, R131). -/
theorem exec_responseWindowClose_of_close {s : State} {winner : Option Station} {own : Option OwnFrame} {f : Frame}
    (h : s.closingFrame winner own f) (hsynced : s.span.synced = true) (hmember : s.formation.state = .member)
    (hcode : f.code = 2) (hown : own = none ∨ own = some { source := .formation .close, frame := f }) (ack rty : Bool)
    (order : List Nat) :
    exec (.responseWindowClose ack rty false order) s = .next
      (((({ s.windowClosed (some f.sender) with formation := { s.formation with
        close := if own ≠ none then none else s.formation.close } } : State).evidence f.sender).closeAtMember f
          order)).refreshReq := by
  have ⟨_, _, hvalue, hfree, _, _⟩ := h
  have hkind : f.kind = some .close := Frame.kind_of_code hcode
  have hclosed : s.heardAtClose f.sender = s.windowClosed (some f.sender) := if_pos hsynced
  have hplace : (s.windowClosed (some f.sender)).home.heldPlace = false := hfree
  have htake {u : State} (hu : u.formation.state = .member) (isOwn : Bool) :
      u.handOn f .taken isOwn order = (u.evidence f.sender).closeAtMember f order := by
    simp only [State.handOn, hu, State.takeAtMember, hkind, if_true]
  rw [exec_responseWindowClose_of_closingFrame h, hclosed]
  rcases hown with rfl | rfl
  · rw [State.closeHeard_other hplace hvalue, hkind, frameOutcome, if_neg (by nofun), htake (by exact hmember),
      if_neg (by simp)]
    rfl
  · rw [State.closeHeard_ownClose hplace hvalue hkind, htake (by exact hmember), if_pos (by simp)]
    rfl

/-- A CLOSE at a MEMBER that agrees with it, or keeps it in another epoch, stops the re-close (R129, R131). -/
theorem State.closeAtMember_of_stop {s : State} {f : Frame}
    (h : s.closeAgrees f = true ∨
      f.reclose = true ∧ f.epoch ≠ s.formation.epoch ∧ f.key.getLsbD s.pins.station.toNat = true) (order : List Nat) :
    s.closeAtMember f order = s.stopReclose := by
  rw [State.closeAtMember]
  split
  · rfl
  next hagrees =>
    obtain ⟨hreclose, hepoch, hin⟩ := h.resolve_left hagrees
    rw [if_pos hreclose, if_neg hepoch, inSet, if_pos hin]

theorem State.closeAgrees_iff {s : State} (h : s.formation.state = .member) (f : Frame) :
    s.closeAgrees f = true ↔ f.epoch = s.formation.epoch ∧
      ∀ n : Station, f.key.getLsbD n.toNat = true ↔ ∃ m ∈ s.formation.members, m.station = n := by
  rw [State.closeAgrees, Bool.and_eq_true, beq_iff_eq, beq_iff_eq, FormationController.eq_memberBitmap_iff h]

/-- Signs of life change neither whether a CLOSE agrees nor the delay of the re-close that its sender starts. -/
theorem State.evidence_closeAgrees (s : State) (st : Station) (f : Frame) :
    (s.evidence st).closeAgrees f = s.closeAgrees f := by
  rw [State.closeAgrees, State.closeAgrees, s.evidence_memberBitmap, State.evidence_frame]

theorem State.evidence_recloseRank (s : State) (self st : Station) :
    (s.evidence st).formation.recloseRank self st = s.formation.recloseRank self st := by
  rw [State.evidence]
  split
  · exact FormationController.recloseRank_modify _ _ _ fun m => m.station_alive _
  · rfl

/-- Settles O47. -/
theorem formationTimersQueueTheirClose : Obligations.FormationTimersQueueTheirClose := by
  refine ⟨fun s d hrest => ⟨fun hd => ?_, fun hd hmember => ⟨s.formation.memberBitmap, fun n => ?_, ?_⟩⟩, ?_⟩
  · change Host.Outcome.next (s.onEvent State.closeExpires) = _
    rw [State.onEvent_of_atRest hrest, State.closeExpires.eq_def, State.startEvent_formation, hd]
    rfl
  · exact (FormationController.eq_memberBitmap_iff hmember _).1 rfl n
  · change Host.Outcome.next (s.onEvent State.recloseExpires) = _
    rw [State.onEvent_of_atRest hrest, State.recloseExpires.eq_def, State.startEvent_formation, hd]
    rfl
  · intro s winner own f ack rty order hclosing hsynced hmember hcode _ now agrees lower after
    let u (close : Option CloseFrame) : State :=
      { s.windowClosed (some f.sender) with formation := { s.formation with close := close } }
    have hlive (close : Option CloseFrame) : (u close).evidence f.sender = after close s.formation.recloseTimer :=
      State.evidence_windowClosed (s := { s with formation := { s.formation with close := close } }) hmember f.sender
    have hagrees (close : Option CloseFrame) : (after close s.formation.recloseTimer).closeAgrees f = true ↔ agrees := by
      rw [← hlive, State.evidence_closeAgrees]
      exact (u close).closeAgrees_iff hmember f
    refine ⟨fun hown hstop => ?_, fun hown hreclose hdiffers => ?_⟩
    · rw [exec_responseWindowClose_of_close hclosing hsynced hmember hcode hown, hlive,
        State.closeAtMember_of_stop (hstop.imp_left (hagrees _).2)]
      rfl
    · have hrank : (after s.formation.close s.formation.recloseTimer).formation.recloseRank
          (after s.formation.close s.formation.recloseTimer).pins.station f.sender = lower := by
        rw [← hlive, State.evidence_recloseRank, State.evidence_pins]
        rfl
      have hexec : exec (.responseWindowClose ack rty false order) s =
          .next ((after s.formation.close s.formation.recloseTimer).startReclose f.sender).refreshReq := by
        rw [exec_responseWindowClose_of_close hclosing hsynced hmember hcode (.inl hown), if_neg (by simp [hown]), hlive,
          State.closeAtMember, if_neg (mt (hagrees _).1 hdiffers), if_neg (by simp [hreclose])]
      rw [State.startReclose_eq] at hexec
      refine ⟨fun hclose => ?_, fun hclose => ?_⟩
      · rw [hexec, if_pos (by exact hclose), hrank, hclose]
        rfl
      · rw [hexec, if_neg (by exact hclose)]

end Sys2Proof.Machine
end

section
/-! PROOFS. A taken PUBLISH at every block but the Home Engine (R51 to R53, R65, R66, R69, R86, R87, R161): the copies,
the watch, the one entry that it ends, and what depends on which blocks. -/

namespace Sys2Proof.Machine

/-! ### The copy -/

/-- A key's copies all lie in one group, and there is one (R39, R40). -/
theorem CopyLaw.way_unique {s : State} (law : CopyLaw s) {k : Key} {v : Fin 4}
    (hv : s.copies[groupOf k].wayOf k = some v) {g : Fin 64} {w : Fin 4} (ho : s.copies[g][w].state ≠ .free)
    (hk : s.copies[g][w].key = k) : g = groupOf k ∧ w = v := by
  have hg : g = groupOf k := by
    rw [← (law g).own_group w (CopyEntry.occupied_iff.2 ho), hk]
  subst hg
  exact ⟨rfl, Option.some_inj.1 (((law _).wayOf_eq ho hk).symm.trans hv)⟩

theorem CopyLaw.filling_iff {s : State} (law : CopyLaw s) (k : Key) :
    s.copies.filling k = true ↔
      ∃ (g : Fin 64) (w : Fin 4), s.copies[g][w].state = .filling ∧ s.copies[g][w].key = k := by
  cases hv : s.copies[groupOf k].wayOf k with
  | none =>
    simp only [CopyTable.filling, CopyTable.entry, hv, Option.map_none, Bool.false_eq_true, false_iff]
    rintro ⟨g, w, hw, hk⟩
    have ho : s.copies[g][w].occupied = true := CopyEntry.occupied_iff.2 (by rw [hw]; nofun)
    have hg : g = groupOf k := by rw [← (law g).own_group w ho, hk]
    subst hg
    exact CopyGroup.wayOf_none hv w ho hk
  | some v =>
    obtain ⟨-, hvk⟩ := CopyGroup.wayOf_spec hv
    simp only [CopyTable.filling, CopyTable.entry, hv, Option.map_some, beq_iff_eq]
    refine ⟨fun h => ⟨_, v, h, hvk⟩, fun ⟨g, w, hw, hk⟩ => ?_⟩
    obtain ⟨rfl, rfl⟩ := law.way_unique hv (by rw [hw]; nofun) hk
    exact hw

/-- A PUBLISH fills a FILLING copy and moves a VALID one to a higher version, its age kept (R51 to R53). -/
theorem CopyLaw.getElem_takePublish {s : State} (law : CopyLaw s) (k : Key) (r : TableRecord) (g : Fin 64) (w : Fin 4) :
    (s.copies.takePublish k r)[g][w] =
      if s.copies[g][w].key = k ∧ (s.copies[g][w].state = .filling ∨
          (s.copies[g][w].state = .valid ∧ s.copies[g][w].record.version < r.version)) then
        { s.copies[g][w] with state := .valid, record := r }
      else s.copies[g][w] := by
  cases hv : s.copies[groupOf k].wayOf k with
  | none =>
    have hstays : s.copies.takePublish k r = s.copies := by
      simp only [CopyTable.takePublish, CopyTable.entry, hv, Option.map_none]
    rw [hstays, if_neg]
    rintro ⟨hk, hstate⟩
    have ho : s.copies[g][w].occupied = true := CopyEntry.occupied_iff.2 (by rcases hstate with h | ⟨h, -⟩ <;> rw [h] <;> nofun)
    have hg : g = groupOf k := by rw [← (law g).own_group w ho, hk]
    subst hg
    exact CopyGroup.wayOf_none hv w ho hk
  | some v =>
    obtain ⟨hvo, hvk⟩ := CopyGroup.wayOf_spec hv
    have htake : s.copies.takePublish k r =
        if s.copies[groupOf k][v].state = .valid ∧ ¬ s.copies[groupOf k][v].record.version < r.version then s.copies
        else s.copies.putRecord k r := by
      simp only [CopyTable.takePublish, CopyTable.entry, hv, Option.map_some]
    obtain ⟨hput, hway, hgroup⟩ := CopyTable.getElem_putRecord hv r
    rw [htake]
    by_cases hhere : g = groupOf k ∧ w = v
    · obtain ⟨rfl, rfl⟩ := hhere
      by_cases hold : s.copies[groupOf k][w].state = .valid ∧ ¬ s.copies[groupOf k][w].record.version < r.version
      · have hstays : ¬ (s.copies[groupOf k][w].key = k ∧ (s.copies[groupOf k][w].state = .filling ∨
            (s.copies[groupOf k][w].state = .valid ∧ s.copies[groupOf k][w].record.version < r.version))) := by
          rintro ⟨-, hfilling | ⟨-, hlt⟩⟩
          · exact nomatch hold.1.symm.trans hfilling
          · exact hold.2 hlt
        rw [if_pos hold, if_neg hstays]
      · have hmoves : s.copies[groupOf k][w].state = .filling ∨
            (s.copies[groupOf k][w].state = .valid ∧ s.copies[groupOf k][w].record.version < r.version) := by
          cases hstate : s.copies[groupOf k][w].state with
          | free => exact absurd hstate (CopyEntry.occupied_iff.1 hvo)
          | filling => exact .inl rfl
          | valid => exact .inr ⟨rfl, not_not.1 fun hlt => hold ⟨hstate, hlt⟩⟩
        rw [if_neg hold, hput, if_pos ⟨hvk, hmoves⟩]
    · have hother : (s.copies.putRecord k r)[g][w] = s.copies[g][w] := by
        by_cases hg : g = groupOf k
        · subst hg
          exact hway w fun hw => hhere ⟨rfl, hw⟩
        · rw [hgroup g hg]
      have hstays : ¬ (s.copies[g][w].key = k ∧ (s.copies[g][w].state = .filling ∨
          (s.copies[g][w].state = .valid ∧ s.copies[g][w].record.version < r.version))) := by
        rintro ⟨hk, hstate⟩
        exact hhere (law.way_unique hv (by rcases hstate with h | ⟨h, -⟩ <;> rw [h] <;> nofun) hk)
      rw [if_neg hstays]
      split
      · rfl
      · exact hother

/-! ### The watch -/

/-- The watch of the key fires (R161). -/
theorem WatchLaw.firePublish_eq {s : State} (law : WatchLaw s) {k : Key} {i : Fin 32}
    (hi : s.watch.entries[i].state ≠ .free) (hk : s.watch.entries[i].key = k) (origin : Station) (r : TableRecord) :
    s.watch.firePublish k origin r =
      { entries := s.watch.entries.set i
          { s.watch.entries[i] with state := .fired, firing := { reason := .changed, origin := origin, record := r } }
        fired := if s.watch.entries[i].state = .armed then s.watch.fired ++ [i] else s.watch.fired } := by
  simp only [WatchUnit.firePublish, law.entryOf_eq hi hk]
  rcases s.watch.fire_cases i { reason := .changed, origin := origin, record := r } with
    ⟨h, hfire⟩ | ⟨h, hfire⟩ | ⟨h, -⟩
  · rw [hfire, if_pos h]
  · rw [hfire, if_neg (by rw [h]; nofun), ← h]
  · exact absurd h hi

theorem WatchUnit.firePublish_of_unwatched {w : WatchUnit} {k : Key}
    (h : ∀ i : Fin 32, w.entries[i].state ≠ .free → w.entries[i].key ≠ k) (origin : Station) (r : TableRecord) :
    w.firePublish k origin r = w := by
  simp only [WatchUnit.firePublish, WatchUnit.entryOf_eq_none h]

/-! ### The entry that the PUBLISH ends -/

/-- The station after the PUBLISH ended an entry: its completion joins the queue, the slot of a RESERVE is HELD and that
of a COMMIT EMPTY, its index is free, and the head is tested again (R63, R69, R86 to R88, R140). -/
def State.withPublishEnd (s : State) (i : Fin 8) (e : PendingEntry) (f : Frame) : State :=
  { s with
    slots :=
      match e.slot with
      | some n => s.slots.set n
          (if e.kind = .fetch then { state := .held, key := e.key, version := f.version }
          else { s.slots[n] with state := .empty })
      | none => s.slots
    tracker := { s.tracker with entries := s.tracker.entries.set i none }
    engine := s.engine.retest
    port := s.port.complete (publishRecord e f) }

theorem State.withPublishEnd_slots (s : State) (i : Fin 8) (e : PendingEntry) (f : Frame) (n : Fin 4) :
    (s.withPublishEnd i e f).slots[n] =
      if e.slot = some n then
        if e.kind = .fetch then { state := .held, key := e.key, version := f.version }
        else { s.slots[n] with state := .empty }
      else s.slots[n] := by
  have hwritten (slot : Option (Fin 4)) (x : Fin 4 → Slot) :
      (match slot with
        | some m => s.slots.set m (x m)
        | none => s.slots)[n] = if slot = some n then x n else s.slots[n] := by
    cases slot with
    | none => rw [if_neg (by nofun)]
    | some m =>
      rw [getElem_set_fin]
      by_cases h : n = m
      · subst h
        rw [if_pos rfl, if_pos rfl]
      · rw [if_neg h, if_neg fun hh => h (Option.some_inj.1 hh).symm]
  exact hwritten e.slot fun m =>
    if e.kind = .fetch then { state := .held, key := e.key, version := f.version }
    else { s.slots[m] with state := .empty }

theorem State.answerFetch_of_published {s : State} {i : Fin 8} {e : PendingEntry} (he : s.tracker.entries[i] = some e)
    (hkind : e.kind = .fetch) (f : Frame) : s.answerFetch i f.record = s.withPublishEnd i e f := by
  rw [State.answerFetch_of_some he, State.withEntryAnswered, State.withPublishEnd, publishRecord, if_pos hkind]
  simp only [if_pos hkind]
  rfl

theorem State.answerUpdate_of_published {s : State} {i : Fin 8} {e : PendingEntry} (he : s.tracker.entries[i] = some e)
    (hkind : e.kind ≠ .fetch) (f : Frame) : s.answerUpdate i f.record = s.withPublishEnd i e f := by
  have hrecord : updateCompletion e f.record = publishRecord e f := by
    rw [publishRecord, if_neg hkind, updateCompletion]
    cases e.command <;> rfl
  simp only [State.answerUpdate, he, State.withPublishEnd, if_neg hkind, hrecord, State.emptyEntrySlot]
  cases e.slot <;> rfl

theorem State.fillByPublish_of_some {s : State} (hfilling : s.copies.filling f.key = true) {i : Fin 8}
    (hi : s.tracker.fetchOf f.key = some i) : s.fillByPublish f = s.answerFetch i f.record := by
  rw [State.fillByPublish, if_pos hfilling, hi]

theorem State.fillByPublish_of_none {s : State} {f : Frame}
    (h : s.copies.filling f.key = true → s.tracker.fetchOf f.key = none) : s.fillByPublish f = s := by
  rw [State.fillByPublish]
  split
  next hfilling => rw [h hfilling]
  next => rfl

/-- The origin's entry that a PUBLISH ends (R83, R86). -/
theorem PendingEntry.ended_iff (e : PendingEntry) (f : Frame) :
    ((e.kind == .update && e.answers f) || (e.kind == .own && e.tag == f.tag && e.key == f.key)) = true ↔
      e.key = f.key ∧ e.tag = f.tag ∧ (e.kind = .update ∧ e.state = .sent ∧ e.home = f.sender ∨ e.kind = .own) := by
  simp only [Bool.or_eq_true, Bool.and_eq_true, PendingEntry.answers_iff, beq_iff_eq]
  tauto

/-- With one entry per key (R77), at most one entry ends at a PUBLISH, and the blocks do with it what R86 and R87 say. -/
theorem TrackerLaw.publish_ends {s : State} (law : TrackerLaw s) (hcopies : CopyLaw s) {f : Frame} {i : Fin 8}
    {e : PendingEntry} (he : s.tracker.entries[i] = some e) (hends : s.endsAtPublish f e) {u : State}
    (htracker : u.tracker = s.tracker) (hcopy : u.copies = s.copies) (hpins : u.pins = s.pins) :
    (u.fillByPublish f).completeOrigin f = u.withPublishEnd i e f := by
  obtain ⟨hkey, hcase⟩ := hends
  have hu : u.tracker.entries[i] = some e := htracker ▸ he
  have honly {j : Fin 8} {x : PendingEntry} (hx : u.tracker.entries[j] = some x) (hxk : x.key = f.key) : j = i :=
    law.one_per_key j i x e (htracker ▸ hx) he (hxk.trans hkey.symm)
  rcases hcase with ⟨hfetch, hfilling⟩ | ⟨htarget, htag, horigin⟩
  · have hfill : u.copies.filling f.key = true := hcopy ▸ (hcopies.filling_iff f.key).2 hfilling
    have hfound : u.tracker.fetchOf f.key = some i :=
      RequestTracker.find_holds_unique hu (by simp [hfetch, hkey]) fun j x hx hp => honly hx (by simp_all)
    rw [State.fillByPublish_of_some hfill hfound, State.answerFetch_of_published hu hfetch]
    have hnone : (u.withPublishEnd i e f).tracker.matchPublish u.pins.station f = none := by
      rw [RequestTracker.matchPublish]
      split
      · refine RequestTracker.find_holds_eq_none fun j x hx => ?_
        rw [← Bool.not_eq_true, PendingEntry.ended_iff]
        rintro ⟨hxk, -⟩
        have hx : (u.tracker.entries.set i none)[j] = some x := hx
        rw [getElem_set_fin] at hx
        split at hx
        · exact nomatch hx
        next hji => exact hji (honly hx hxk)
      · rfl
    rw [State.completeOrigin]
    exact (congrArg (fun o : Option (Fin 8) => match o with
      | some j => (u.withPublishEnd i e f).answerUpdate j f.record
      | none => u.withPublishEnd i e f) hnone :)
  · have hkind : e.kind ≠ .fetch := by rcases horigin with ⟨h, -⟩ | h <;> rw [h] <;> nofun
    have hnofetch : u.tracker.fetchOf f.key = none := RequestTracker.find_holds_eq_none fun j x hx => by
      rw [← Bool.not_eq_true, Bool.and_eq_true, beq_iff_eq, beq_iff_eq]
      rintro ⟨hxf, hxk⟩
      obtain rfl := honly hx hxk
      exact hkind (Option.some_inj.1 (hx.symm.trans hu) ▸ hxf)
    have hmatch : u.tracker.matchPublish u.pins.station f = some i := by
      rw [RequestTracker.matchPublish, if_pos (hpins ▸ htarget)]
      exact RequestTracker.find_holds_unique hu ((e.ended_iff f).2 ⟨hkey, htag, horigin⟩) fun j x hx hp =>
        honly hx ((x.ended_iff f).1 hp).1
    rw [State.fillByPublish_of_none fun _ => hnofetch, State.completeOrigin, hmatch]
    exact State.answerUpdate_of_published hu hkind f

theorem CopyLaw.publish_ends_none {s : State} (hcopies : CopyLaw s) {f : Frame}
    (h : ∀ (i : Fin 8) (e : PendingEntry), s.tracker.entries[i] = some e → ¬ s.endsAtPublish f e) {u : State}
    (htracker : u.tracker = s.tracker) (hcopy : u.copies = s.copies) (hpins : u.pins = s.pins) :
    (u.fillByPublish f).completeOrigin f = u := by
  have hnofetch (hfilling : u.copies.filling f.key = true) : u.tracker.fetchOf f.key = none := by
    refine RequestTracker.find_holds_eq_none fun i e he => ?_
    rw [← Bool.not_eq_true, Bool.and_eq_true, beq_iff_eq, beq_iff_eq]
    exact fun ⟨hfetch, hkey⟩ => h i e (htracker ▸ he)
      ⟨hkey, .inl ⟨hfetch, (hcopies.filling_iff f.key).1 (hcopy ▸ hfilling)⟩⟩
  have hmatch : u.tracker.matchPublish u.pins.station f = none := by
    rw [RequestTracker.matchPublish]
    split
    next htarget =>
      refine RequestTracker.find_holds_eq_none fun i e he => ?_
      rw [← Bool.not_eq_true, PendingEntry.ended_iff]
      exact fun ⟨hkey, htag, horigin⟩ => h i e (htracker ▸ he) ⟨hkey, .inr ⟨hpins ▸ htarget, htag, horigin⟩⟩
    next => rfl
  rw [State.fillByPublish_of_none hnofetch, State.completeOrigin, hmatch]

/-! ### Every block -/

/-- What each block makes of a taken PUBLISH at the start of an event. -/
theorem State.takePublish_publishTaken {s : State} (hcopies : CopyLaw s) (hwatch : WatchLaw s) (htracker : TrackerLaw s)
    (hfresh : s.port.fresh = 0) (f : Frame) : PublishTaken s (s.takePublish f) f := by
  let u : State := (s.loseSlots (fun k => k == f.key)).retest
  have hslots (n : Fin 4) : u.slots[n] =
      if s.slots[n].state = .held ∧ s.slots[n].key = f.key then { s.slots[n] with state := .lost } else s.slots[n] := by
    refine (s.getElem_loseSlots (fun k => k == f.key) n).trans ?_
    simp only [beq_iff_eq]
  have htake : s.takePublish f = { (u.fillByPublish f).completeOrigin f with
      copies := ((u.fillByPublish f).completeOrigin f).copies.takePublish f.key f.record
      watch := ((u.fillByPublish f).completeOrigin f).watch.firePublish f.key f.target f.record } := rfl
  have hends (i : Fin 8) (e : PendingEntry) (he : s.tracker.entries[i] = some e) (hend : s.endsAtPublish f e) :
      (u.fillByPublish f).completeOrigin f = u.withPublishEnd i e f := htracker.publish_ends hcopies he hend rfl rfl rfl
  have hnone (h : ∀ (i : Fin 8) (e : PendingEntry), s.tracker.entries[i] = some e → ¬ s.endsAtPublish f e) :
      (u.fillByPublish f).completeOrigin f = u := hcopies.publish_ends_none h rfl rfl rfl
  have hblocks : ((u.fillByPublish f).completeOrigin f).copies = s.copies ∧
      ((u.fillByPublish f).completeOrigin f).watch = s.watch ∧
      ((u.fillByPublish f).completeOrigin f).engine = s.engine.retest := by
    by_cases h : ∀ (i : Fin 8) (e : PendingEntry), s.tracker.entries[i] = some e → ¬ s.endsAtPublish f e
    · rw [hnone h]
      exact ⟨rfl, rfl, rfl⟩
    · push Not at h
      obtain ⟨i, e, he, hend⟩ := h
      rw [hends i e he hend]
      exact ⟨rfl, rfl, s.engine.retest_retest⟩
  obtain ⟨hcopy, hwatched, hengine⟩ := hblocks
  rw [hcopy, hwatched] at htake
  rw [htake]
  refine ⟨hcopies.getElem_takePublish f.key f.record, fun i hi hk => hwatch.firePublish_eq hi hk f.target f.record,
    fun h => WatchUnit.firePublish_of_unwatched h f.target f.record, fun h => ?_, fun i e he hend => ?_, hengine⟩
  · rw [hnone h]
    exact ⟨rfl, by rw [← hfresh]; rfl, hslots⟩
  · rw [hends i e he hend]
    refine ⟨rfl, ?_, fun n => ?_⟩
    · exact congrArg (fun m => { s.port with
        completions := s.port.completions ++ [QueueRecord.completion (publishRecord e f)]
        outstanding := s.port.outstanding - 1
        fresh := m + 1 }) hfresh
    · have hempty : { u.slots[n] with state := SlotState.empty } = { s.slots[n] with state := .empty } := by
        rw [hslots n]
        split <;> rfl
      rw [← hslots n, ← hempty]
      exact u.withPublishEnd_slots i e f n

/-- What a taken PUBLISH does depends on the blocks behind the Home Engine and on the station's number. -/
theorem PublishTaken.congr {s s' t t' : State} {f : Frame} (h : PublishTaken s' t' f) (pins : s'.pins = s.pins)
    (copies : s'.copies = s.copies) (slots : s'.slots = s.slots) (tracker : s'.tracker = s.tracker)
    (watch : s'.watch = s.watch) (engine : s'.engine.retest = s.engine.retest)
    (port : s'.port = { s.port with fresh := s'.port.fresh })
    (copies' : t.copies = t'.copies) (slots' : t.slots = t'.slots) (tracker' : t.tracker = t'.tracker)
    (watch' : t.watch = t'.watch) (engine' : t.engine = t'.engine) (port' : t.port = t'.port) : PublishTaken s t f := by
  have hends (e : PendingEntry) : s'.endsAtPublish f e ↔ s.endsAtPublish f e := by
    rw [State.endsAtPublish, State.endsAtPublish, copies, pins]
  obtain ⟨h1, h2, h3, h4, h5, h6⟩ := h
  rw [copies, ← copies'] at h1
  rw [watch, ← watch'] at h2 h3
  rw [tracker, slots, ← tracker', ← slots', ← port', port] at h4 h5
  rw [engine, ← engine'] at h6
  exact ⟨h1, h2, h3, fun hnone => h4 fun i e he => (hends e).not.2 (hnone i e he),
    fun i e he hend => h5 i e he ((hends e).2 hend), h6⟩

/-- A PUBLISH of its epoch that a MEMBER takes: its sender is alive, and every block behind the Home Engine takes it
(R108, R109). -/
theorem State.takeAtMember_of_publish {s : State} {f : Frame} (hcode : f.code = 11) (hepoch : f.epoch = s.formation.epoch)
    (order : List Nat) : s.takeAtMember f order = (s.evidence f.sender).takePublish f := by
  have hkind : f.kind = some .publish := Frame.kind_of_code hcode
  simp only [State.takeAtMember, State.tableFrame, hkind, hepoch, if_true]

theorem State.answerFetch_frame (s : State) (i : Fin 8) (r : TableRecord) :
    (s.answerFetch i r).home = s.home ∧ (s.answerFetch i r).formation = s.formation := by
  cases he : s.tracker.entries[i] with
  | none => simp only [State.answerFetch, he, and_self]
  | some e =>
    rw [State.answerFetch_of_some he]
    exact ⟨rfl, rfl⟩

theorem State.answerUpdate_frame (s : State) (i : Fin 8) (r : TableRecord) :
    (s.answerUpdate i r).home = s.home ∧ (s.answerUpdate i r).formation = s.formation := by
  cases he : s.tracker.entries[i] with
  | none => simp only [State.answerUpdate, he, and_self]
  | some e =>
    simp only [State.answerUpdate, he, State.emptyEntrySlot]
    cases e.slot <;> exact ⟨rfl, rfl⟩

/-- The blocks behind the Home Engine leave it and the Formation Controller as they are. -/
theorem State.takePublish_frame (s : State) (f : Frame) :
    (s.takePublish f).home = s.home ∧ (s.takePublish f).formation = s.formation ∧ (s.takePublish f).span = s.span := by
  have hfill (u : State) : (u.fillByPublish f).home = u.home ∧ (u.fillByPublish f).formation = u.formation := by
    rw [State.fillByPublish]
    split
    · split
      · exact u.answerFetch_frame _ _
      · exact ⟨rfl, rfl⟩
    · exact ⟨rfl, rfl⟩
  have horigin (u : State) : (u.completeOrigin f).home = u.home ∧ (u.completeOrigin f).formation = u.formation := by
    rw [State.completeOrigin]
    split
    · exact u.answerUpdate_frame _ _
    · exact ⟨rfl, rfl⟩
  obtain ⟨hhome, hformation⟩ := hfill (s.loseSlots (fun k => k == f.key)).retest
  obtain ⟨hhome', hformation'⟩ := horigin ((s.loseSlots (fun k => k == f.key)).retest.fillByPublish f)
  exact ⟨hhome'.trans hhome, hformation'.trans hformation, (s.works_takePublish f).span⟩

/-- Settles O53. -/
theorem takenPublishReachesEveryBlock : Obligations.TakenPublishReachesEveryBlock := by
  intro s winner f ack rty order hclosing hcopies hwatch htracker hsynced hmember hcode _ hepoch
  have hexec : exec (.responseWindowClose ack rty false order) s =
      .next ((s.heardAlive f.sender).takePublish f).refreshReq := by
    have hclosed : (s.windowClosed (some f.sender)).formation.state = .member := hmember
    rw [exec_responseWindowClose_of_closingWindow hclosing hsynced, frameOutcome_taken (.inr (.inl hcode)),
      ← State.evidence_windowClosed hmember]
    simp only [State.handOn, hclosed, if_true]
    rw [State.takeAtMember_of_publish hcode (by exact hepoch)]
  have htaken : PublishTaken (s.heardAlive f.sender) ((s.heardAlive f.sender).takePublish f) f :=
    State.takePublish_publishTaken (s := s.heardAlive f.sender) (CopyLaw.of_copies_eq (s := s) rfl hcopies) (hwatch.of_watch_eq rfl)
      (.of_eq (s := s) rfl rfl htracker) rfl f
  obtain ⟨hhome, hformation, hspan⟩ := (s.heardAlive f.sender).takePublish_frame f
  generalize (s.heardAlive f.sender).takePublish f = t at hexec htaken hhome hformation hspan
  exact ⟨t.refreshReq, hexec, htaken.congr rfl rfl rfl rfl rfl rfl rfl rfl rfl rfl rfl rfl rfl, hhome,
    congrArg SpanInterface.lastWinner hspan, hformation⟩

end Sys2Proof.Machine
end

section
/-! PROOFS. The close of a response window at large (R101, R103, R106): what the lines read, a frame that nobody takes, and
the send of the station's own frames (R30 to R32, R79 to R82, R111). -/

namespace Sys2Proof.Machine

/-! ### The last winner and sync -/

/-- The close of a window in which SPD± was quiet, whatever the station heard of its frame. -/
theorem exec_responseWindowClose_of_window {s : State} {winner : Option Station} {own : Option OwnFrame}
    {heard : Option (List Byte)} (hrest : s.atRest) (hintruder : s.span.intruder = .absent)
    (htenure : s.span.tenure = .window winner own heard) (ack rty chk : Bool) (order : List Nat) :
    exec (.responseWindowClose ack rty chk order) s =
      .next (match heard with
        | some bs => (s.startEvent.endWindow.setWinner winner heard).closeHeard own bs (s.readLines ack rty chk) order
        | none => s.startEvent.endWindow.setWinner winner heard).refreshReq := by
  change Host.Outcome.next (s.onEvent fun s => s.closeWindow ack rty chk order) = _
  rw [State.onEvent_of_atRest hrest]
  simp only [State.closeWindow, State.startEvent_span, htenure, hintruder, State.followIntruder_absent]
  cases heard <;> rfl

/-- The winner that a tenure's close without an intact frame sets (R101). -/
def State.winnerKept (s : State) (winner : Option Station) : Option Station :=
  if s.span.synced = true ∧ winner ≠ none then winner else s.span.lastWinner

theorem State.endWindow_keepWinner (s : State) (winner : Option Station) :
    s.startEvent.endWindow.keepWinner winner = s.windowClosed (s.winnerKept winner) := by
  rw [State.keepWinner.eq_def, State.winnerKept]
  cases winner with
  | none => rw [if_neg fun h => h.2 rfl]; rfl
  | some w =>
    by_cases hsynced : s.span.synced = true
    · rw [if_pos ⟨hsynced, by nofun⟩]
      exact if_pos hsynced
    · rw [if_neg fun h => hsynced h.1]
      exact if_neg hsynced

theorem State.endWindow_setWinner_unheard (s : State) (winner : Option Station) :
    s.startEvent.endWindow.setWinner winner none = s.windowClosed (s.winnerKept winner) :=
  s.endWindow_keepWinner winner

/-- The Span Interface and the ROLL candidate at the close (R101, R103, R119). -/
theorem State.endWindow_setWinner_eq (s : State) (winner : Option Station) (bs : List Byte) :
    s.startEvent.endWindow.setWinner winner (some bs) =
      { s.windowClosed (if frameIntact bs = true then some (Frame.ofBytes bs).sender else s.winnerKept winner) with
        span := { (s.windowClosed (if frameIntact bs = true then some (Frame.ofBytes bs).sender
          else s.winnerKept winner)).span with synced := s.span.synced || frameIntact bs }
        formation :=
          if frameIntact bs = true ∧ s.span.synced = false ∧ s.formation.state = .listen then
            { s.formation with roll := some s.formation.proposal }
          else s.formation } := by
  cases hintact : frameIntact bs with
  | false =>
    have hkeep : s.startEvent.endWindow.setWinner winner (some bs) = s.startEvent.endWindow.keepWinner winner := by
      simp only [State.setWinner, hintact, Bool.false_eq_true, if_false]
    rw [hkeep, s.endWindow_keepWinner, if_neg (by nofun), if_neg (by simp), Bool.or_false]
    rfl
  | true =>
    rw [if_pos rfl, Bool.or_true]
    simp only [State.setWinner, hintact, if_true, true_and]
    cases hsynced : s.span.synced with
    | true =>
      rw [if_pos (by exact hsynced), if_neg (by simp)]
      simp only [State.windowClosed, ← hsynced]
      rfl
    | false =>
      rw [if_neg (by exact Bool.eq_false_iff.1 hsynced)]
      simp only [true_and]
      rfl

/-- At a synced station the close sets the last winner and nothing else. -/
theorem State.endWindow_setWinner_of_synced {s : State} (h : s.span.synced = true) (winner : Option Station)
    (bs : List Byte) :
    s.startEvent.endWindow.setWinner winner (some bs) =
      s.windowClosed (if frameIntact bs = true then some (Frame.ofBytes bs).sender else s.winnerKept winner) := by
  have hsynced : (s.span.synced || frameIntact bs) = s.span.synced := by rw [h, Bool.true_or]
  have hroll : ¬ (frameIntact bs = true ∧ s.span.synced = false ∧ s.formation.state = .listen) := fun hh =>
    nomatch h.symm.trans hh.2.1
  rw [State.endWindow_setWinner_eq, if_neg hroll, hsynced]
  rfl

theorem State.endWindow_setWinner_of_computed {s : State} (h : s.span.synced = true) (winner : Station)
    (bs : List Byte) :
    s.startEvent.endWindow.setWinner (some winner) (some bs) =
      s.windowClosed (some (if frameIntact bs = true then (Frame.ofBytes bs).sender else winner)) := by
  have hkept : s.winnerKept (some winner) = some winner := if_pos ⟨h, by nofun⟩
  rw [State.endWindow_setWinner_of_synced h, hkept, ← apply_ite some]

/-! ### Signs of life -/

/-- Evidence of life at the close of a window, whoever its last winner is (R109, R126). -/
theorem State.evidence_of_close {s : State} (h : s.formation.state = .member) (w : Option Station) (st : Station) :
    (s.windowClosed w).evidence st = { s.windowClosed w with formation := s.aliveAtClose st } := by
  by_cases hst : st = s.pins.station
  · rw [State.evidence, if_neg fun hh => hh.2 hst, State.aliveAtClose, aliveIn, if_pos hst]
    rfl
  · rw [State.evidence, if_pos ⟨h, hst⟩, State.aliveAtClose, aliveIn, if_neg hst]
    simp only [FormationController.modify, Member.alive_eq, ite_and]
    rfl

/-! ### A taken request -/

/-- The request of a taken FETCH or UPDATE, with the fields that its op does not use at zero (R15). -/
theorem Frame.request_of_fetch {f : Frame} (h : f.code = 8) : f.request = .fetch := by
  rw [Frame.request, Frame.kind_of_code (k := .fetch) h]

theorem Frame.request_of_update {f : Frame} (h : f.code = 9) {op : Op} (hop : f.aux = op.code) :
    f.request = .update (Update.make op f.version f.wordIndex f.value) := by
  have hofCode : Op.ofCode f.aux = some op := by
    rw [hop]
    cases op <;> rfl
  simp only [Frame.request, Frame.kind_of_code (k := .update) h, hofCode]

/-- A MEMBER takes from a request of its own epoch the sign of life of its sender (R109). -/
theorem State.takeAtMember_of_request (s : State) {f : Frame} (h : f.code = 8 ∨ f.code = 9) (order : List Nat) :
    s.takeAtMember f order = if f.epoch = s.formation.epoch then s.evidence f.sender else s := by
  rcases h with h | h
  · simp only [State.takeAtMember, State.tableFrame, Frame.kind_of_code (k := .fetch) h]
  · simp only [State.takeAtMember, State.tableFrame, Frame.kind_of_code (k := .update) h]

/-- Settles O50. -/
theorem takenRequestJoinsTheInboundQueue : Obligations.TakenRequestJoinsTheInboundQueue := by
  intro s winner f request ack rty order hrest hintruder hsynced hmember htenure hvalue hplace hchk hack hepoch hrequest
  have hcode : f.code = 8 ∨ f.code = 9 := hrequest.imp And.left And.left
  have hreq : f.request = request := by
    rcases hrequest with ⟨h, rfl⟩ | ⟨h, op, hop, rfl⟩
    · exact Frame.request_of_fetch h
    · rw [Frame.request_of_update (op := op) h (by cases op <;> exact hop)]
      cases op <;> rfl
  have hlines : (s.readLines ack rty false).chk = false := hchk
  have houtcome : frameOutcome f.kind (s.readLines ack rty false) = .taken := by
    rw [State.readLines, hchk]
    refine frameOutcome_taken (.inl ⟨?_, by simpa using hack⟩) _
    rcases hcode with h | h <;> simp [h]
  let u : State := { s with home := { s.home with
    heldPlace := false
    inbound := s.home.inbound ++
      [{ source := .span, request := request, key := f.key, requester := f.sender, tag := f.tag }] } }
  have hsettled : (s.windowClosed (some f.sender)).settlePlace f .taken = u.windowClosed (some f.sender) := by
    rw [State.settlePlace, if_pos (by exact hplace), if_pos rfl, hreq]
    rfl
  have hhanded : (u.windowClosed (some f.sender)).handOn f .taken false order =
      { u.windowClosed (some f.sender) with formation := u.aliveAtClose f.sender } := by
    have hclosed : (u.windowClosed (some f.sender)).formation.state = .member := hmember
    rw [← State.evidence_of_close (s := u) hmember]
    simp only [State.handOn, hclosed, if_true, State.takeAtMember_of_request _ hcode]
    exact if_pos hepoch
  rw [exec_responseWindowClose_of_window hrest hintruder htenure]
  simp only
  rw [State.endWindow_setWinner_bytes hsynced hvalue, State.closeHeard_eq]
  simp only [Frame.ofBytes_bytes hvalue, f.frameIntact_bytes, if_true, houtcome, State.sentAtClose, hsettled,
    hlines, Option.isSome_none, hhanded]
  rfl

end Sys2Proof.Machine
end

section
/-! PROOFS. The close of the window of the station's own frame: what the outcome does to its source (R30 to R32, R79 to
R82, R111). -/

namespace Sys2Proof.Machine

/-! ### The frame at the close -/

/-- A frame that is not intact, or beside CHK#, is voided (R106). -/
theorem outcome_of_voided {bs : List Byte} {l : Lines} (h : l.chk = true ∨ frameIntact bs = false) :
    (if frameIntact bs = true then frameOutcome (Frame.ofBytes bs).kind l else .voided) = .voided := by
  split
  next hintact =>
    exact if_pos (h.resolve_right (by rw [hintact]; nofun))
  next => rfl

/-- A voided frame is handed on to no block (R107). -/
theorem State.closeHeard_of_voided (u : State) (own : Option OwnFrame) {bs : List Byte} {l : Lines}
    (h : l.chk = true ∨ frameIntact bs = false) (order : List Nat) :
    u.closeHeard own bs l order = (u.sentAtClose own .voided l).settlePlace (Frame.ofBytes bs) .voided := by
  have hstop : (l.chk || !frameIntact bs) = true := by
    rcases h with h | h <;> rw [h] <;> simp
  rw [State.closeHeard_eq, outcome_of_voided h, if_pos hstop]
  cases own with
  | none => rfl
  | some x => exact if_neg fun hh => nomatch hh.2.1

/-- The own frame, heard back as it was sent and without CHK#, is handed on with the outcome that its source has seen
(R107, R111). -/
theorem State.closeHeard_of_sent {u v : State} {x : OwnFrame} {l : Lines} (hchk : l.chk = false)
    (hvalue : x.frame.long = false → x.frame.value = zeroValue) (hsource : x.source ≠ .formation .reform)
    (hv : u.sentAtClose (some x) (frameOutcome x.frame.kind l) l = v) (hplace : v.home.heldPlace = false)
    (order : List Nat) :
    u.closeHeard (some x) x.frame.bytes l order = v.handOn x.frame (frameOutcome x.frame.kind l) true order := by
  rw [State.closeHeard_eq]
  simp only [x.frame.frameIntact_bytes, if_true, Frame.ofBytes_bytes hvalue, hv, State.settlePlace_of_free hplace, hchk,
    Bool.not_true, Bool.or_self, Bool.false_eq_true, if_false]
  exact if_neg fun hh => hsource hh.1

/-! ### The lines beside an own frame -/

/-- The signs of life that ACK# and RTY# give of the target of an addressed frame (R109). -/
theorem State.targetEvidence_of_addressed (s : State) {x : OwnFrame}
    (hcode : x.frame.code ∈ ([8, 9, 10, 12] : List (BitVec 4))) (l : Lines) :
    s.targetEvidence x l = if l.ack = true ∨ l.rty = true then s.evidence x.frame.target else s := by
  simp only [List.mem_cons, List.not_mem_nil, or_false] at hcode
  simp only [← Bool.or_eq_true]
  rcases hcode with h | h | h | h
  · rw [State.targetEvidence, Frame.kind_of_code (k := .fetch) h]
  · rw [State.targetEvidence, Frame.kind_of_code (k := .update) h]
  · rw [State.targetEvidence, Frame.kind_of_code (k := .data) h]
  · rw [State.targetEvidence, Frame.kind_of_code (k := .refuse) h]

/-- A frame that goes to all stations has no target to be alive (R109). -/
theorem State.targetEvidence_of_broadcast (s : State) {x : OwnFrame}
    (hcode : x.frame.code ∈ ([1, 2, 3, 11] : List (BitVec 4))) (l : Lines) : s.targetEvidence x l = s := by
  simp only [List.mem_cons, List.not_mem_nil, or_false] at hcode
  rcases hcode with h | h | h | h
  · rw [State.targetEvidence, Frame.kind_of_code (k := .roll) h]
  · rw [State.targetEvidence, Frame.kind_of_code (k := .close) h]
  · rw [State.targetEvidence, Frame.kind_of_code (k := .reform) h]
  · rw [State.targetEvidence, Frame.kind_of_code (k := .publish) h]

/-- The outcome of an addressed frame without CHK# (R79, R106). -/
theorem frameOutcome_of_request {f : Frame} (hcode : f.code = 8 ∨ f.code = 9) {l : Lines} (hchk : l.chk = false) :
    frameOutcome f.kind l = if l.ack = true then .taken else if l.rty = true then .retry else .unanswered := by
  rcases hcode with h | h
  · rw [Frame.kind_of_code (k := .fetch) h, frameOutcome, if_neg (by rw [hchk]; nofun)]
  · rw [Frame.kind_of_code (k := .update) h, frameOutcome, if_neg (by rw [hchk]; nofun)]

theorem frameOutcome_of_data {f : Frame} (hcode : f.code = 10 ∨ f.code = 12) {l : Lines} (hchk : l.chk = false) :
    frameOutcome f.kind l = if l.ack = true then .taken else .unanswered := by
  rcases hcode with h | h
  · rw [Frame.kind_of_code (k := .data) h, frameOutcome, if_neg (by rw [hchk]; nofun)]
  · rw [Frame.kind_of_code (k := .refuse) h, frameOutcome, if_neg (by rw [hchk]; nofun)]

/-! ### A request's send -/

/-- The station's own addressed frame of table traffic acts nowhere else at a MEMBER: the station is no target of its
own, and evidence of itself is none (R108, R109). -/
theorem State.handOn_ownFrame {s : State} (h : s.formation.state = .member) {f : Frame}
    (hcode : f.code = 8 ∨ f.code = 9 ∨ (f.code = 10 ∨ f.code = 12) ∧ f.target ≠ s.pins.station)
    (hsender : f.sender = s.pins.station) (o : SendOutcome) (order : List Nat) : s.handOn f o true order = s := by
  have hself : s.evidence f.sender = s := if_neg fun hh => hh.2 hsender
  have htake : s.takeAtMember f order = s := by
    rw [← or_assoc] at hcode
    rcases hcode with hcode | ⟨hcode, htarget⟩
    · rw [State.takeAtMember_of_request s hcode, hself, ite_self]
    · rw [State.takeAtMember_of_answer s hcode, if_neg htarget, hself, ite_self]
  simp only [State.handOn, h, htake, ite_self]

/-- What a request's outcome makes of its entry (R79 to R82). -/
def PendingEntry.after (e : PendingEntry) (now : Time) : SendOutcome → PendingEntry
  | .taken => e.taken now
  | .retry => e.retried now
  | .voided => e.failed now true
  | .unanswered => e.failed now false

theorem State.requestSent_of_queued {s : State} {i : Fin 8} {e : PendingEntry} (he : s.tracker.entries[i] = some e)
    (hqueued : e.state = .queued) (o : SendOutcome) :
    s.requestSent i e.tag o =
      { s with tracker := { s.tracker with entries := s.tracker.entries.set i (some (e.after s.clock o)) } } := by
  simp only [State.requestSent, he, hqueued, and_self, if_true]
  cases o <;> rfl

/-- The outcome goes to no entry where the entry has been released (R82). -/
theorem State.requestSent_of_released {s : State} {i : Fin 8} {tag : Tag}
    (h : ∀ e : PendingEntry, s.tracker.entries[i] = some e → e.tag = tag → e.state ≠ .queued) (o : SendOutcome) :
    s.requestSent i tag o = s := by
  rw [State.requestSent]
  split
  next e he => exact if_neg fun hh => h e he hh.1 hh.2
  next => rfl

/-- The send of a queued frame or a request leaves the held place, the Formation Controller and the pins. -/
theorem State.ownSent_frame (s : State) {x : OwnFrame} (h : ∀ kind, x.source ≠ .formation kind) (o : SendOutcome) :
    (s.ownSent x o).home.heldPlace = s.home.heldPlace ∧ (s.ownSent x o).formation = s.formation ∧
      (s.ownSent x o).pins = s.pins := by
  rw [State.ownSent]
  split
  next kind hkind => exact absurd hkind (h kind)
  next =>
    rw [State.outboundSent]
    split
    · split
      · split
        · split <;> exact ⟨rfl, rfl, rfl⟩
        · exact ⟨rfl, rfl, rfl⟩
      · exact ⟨rfl, rfl, rfl⟩
    · exact ⟨rfl, rfl, rfl⟩
  next =>
    rw [State.requestSent]
    split
    · split <;> exact ⟨rfl, rfl, rfl⟩
    · exact ⟨rfl, rfl, rfl⟩

/-- The close of the window of the station's own addressed frame, in terms of what its source makes of the outcome. -/
theorem exec_responseWindowClose_of_ownAddressed {s : State} {winner : Station} {own : OwnFrame} {bs : List Byte}
    (hrest : s.atRest) (hintruder : s.span.intruder = .absent) (hsynced : s.span.synced = true)
    (hmember : s.formation.state = .member) (hplace : s.home.heldPlace = false)
    (hsource : ∀ kind, own.source ≠ .formation kind) (hcode : own.frame.code = 8 ∨ own.frame.code = 9 ∨
      (own.frame.code = 10 ∨ own.frame.code = 12) ∧ own.frame.target ≠ s.pins.station)
    (hsender : own.frame.sender = s.pins.station)
    (htenure : s.span.tenure = .window (some winner) (some own) (some bs)) (hack : s.span.ack = false)
    (hrty : s.span.rty = false) (ack rty chk : Bool) (order : List Nat) {o : SendOutcome}
    (ho : (chk = true ∨ s.span.chk = true ∨ frameIntact bs = false) ∧ o = .voided ∨
      ((chk = false ∧ s.span.chk = false) ∧ bs = own.frame.bytes ∧
        (own.frame.long = false → own.frame.value = zeroValue)) ∧
        o = frameOutcome own.frame.kind { ack := ack, rty := rty, chk := false }) :
    exec (.responseWindowClose ack rty chk order) s = .next
      (({ s.windowClosed (some (if frameIntact bs = true then (Frame.ofBytes bs).sender else winner)) with
        formation := if ack = true ∨ rty = true then s.aliveAtClose own.frame.target else s.formation } :
          State).ownSent own o).refreshReq := by
  let w : Option Station := some (if frameIntact bs = true then (Frame.ofBytes bs).sender else winner)
  let l : Lines := s.readLines ack rty chk
  let v : State := { s.windowClosed w with
    formation := if ack = true ∨ rty = true then s.aliveAtClose own.frame.target else s.formation }
  have hl : l = { ack := ack, rty := rty, chk := chk || s.span.chk } := by
    change s.readLines ack rty chk = _
    rw [State.readLines, hack, hrty, Bool.or_false, Bool.or_false]
  have hclosed : s.startEvent.endWindow.setWinner (some winner) (some bs) = s.windowClosed w :=
    State.endWindow_setWinner_of_computed hsynced winner bs
  have hevidence : (s.windowClosed w).targetEvidence own l = v := by
    have haddressed : own.frame.code ∈ ([8, 9, 10, 12] : List (BitVec 4)) := by
      rcases hcode with h | h | ⟨h | h, -⟩ <;> rw [h] <;> decide
    rw [State.targetEvidence_of_addressed _ haddressed, State.evidence_of_close hmember, hl]
    change (if ack = true ∨ rty = true then _ else _) = v
    by_cases h : ack = true ∨ rty = true
    · simp only [v, if_pos h]
    · simp only [v, if_neg h]
      rfl
  have hsent (o : SendOutcome) : (s.windowClosed w).sentAtClose (some own) o l = v.ownSent own o := by
    rw [← hevidence, State.sentAtClose]
  obtain ⟨hhome, hstate, hpins⟩ := v.ownSent_frame hsource o
  have hmember' : (v.ownSent own o).formation.state = .member := by
    rw [hstate]
    change (if ack = true ∨ rty = true then s.aliveAtClose own.frame.target else s.formation).state = .member
    split <;> exact hmember
  have hplace' : (v.ownSent own o).home.heldPlace = false := by
    rw [hhome]
    exact hplace
  rw [exec_responseWindowClose_of_window hrest hintruder htenure]
  simp only
  rw [hclosed]
  rcases ho with ⟨hvoided, rfl⟩ | ⟨⟨⟨hchk, hchk'⟩, rfl, hvalue⟩, ho⟩
  · rw [State.closeHeard_of_voided _ _ (by rw [← or_assoc, ← Bool.or_eq_true] at hvoided; exact hvoided), hsent,
      State.settlePlace_of_free hplace']
  · have hlchk : l = { ack := ack, rty := rty, chk := false } := by
      rw [hl, hchk, hchk']
      rfl
    have houtcome : frameOutcome own.frame.kind l = o := by
      rw [ho, hlchk]
    rw [State.closeHeard_of_sent (congrArg Lines.chk hlchk) hvalue (hsource _) (houtcome ▸ hsent o) hplace', houtcome,
      State.handOn_ownFrame hmember' (by rw [hpins]; exact hcode) (hsender.trans (by rw [hpins]; rfl))]

/-- Settles O51. -/
theorem requestSendOutcomeIsCounted : Obligations.RequestSendOutcomeIsCounted := by
  intro s winner own i tag bs ack rty chk order hrest hintruder hsynced hmember hplace hsource hcode hsender htenure hack
    hrty now voided sent closed becomes
  have hcode' : own.frame.code = 8 ∨ own.frame.code = 9 := by simpa using hcode
  have hexec {o : SendOutcome} (ho : voided ∧ o = .voided ∨
      sent ∧ o = if ack = true then .taken else if rty = true then .retry else .unanswered) :
      exec (.responseWindowClose ack rty chk order) s = .next ((closed s.tracker).requestSent i tag o).refreshReq := by
    have hclose := exec_responseWindowClose_of_ownAddressed hrest hintruder hsynced hmember hplace
      (by rw [hsource]; nofun) (by tauto) hsender htenure hack hrty ack rty chk order (o := o) <|
      ho.imp id fun ⟨⟨hnot, hbytes, hvalue⟩, ho⟩ =>
        ⟨⟨⟨Bool.eq_false_iff.2 fun h => hnot (.inl h), Bool.eq_false_iff.2 fun h => hnot (.inr (.inl h))⟩, hbytes,
          hvalue⟩, by rw [ho, frameOutcome_of_request hcode' rfl]⟩
    rw [hclose, State.ownSent, hsource]
    rfl
  refine ⟨fun e he htag hqueued => ⟨fun hvoided => ?_, fun hsent => ?_⟩, fun hreleased hcase => ?_⟩
  · rw [hexec (.inl ⟨hvoided, rfl⟩), ← htag, State.requestSent_of_queued (by exact he) hqueued]
    rfl
  · rw [hexec (.inr ⟨hsent, rfl⟩), ← htag, State.requestSent_of_queued (by exact he) hqueued]
    cases ack <;> cases rty <;> rfl
  · rcases hcase with hvoided | hsent
    · rw [hexec (.inl ⟨hvoided, rfl⟩), State.requestSent_of_released (by exact hreleased)]
    · rw [hexec (.inr ⟨hsent, rfl⟩), State.requestSent_of_released (by exact hreleased)]

/-! ### The outbound head's send -/

/-- The outbound head's send (R29 to R32). -/
theorem State.outboundSent_of_head {s : State} {e : OutboundEntry} {rest : List OutboundEntry}
    (h : s.home.outbound = e :: rest) (o : SendOutcome) :
    s.outboundSent e.frame o =
      if o = .taken then if e.frame.kind = some .publish then s.commitPublish e.frame else s.popOutbound
      else { s with home := { s.home with outbound := { e with attempts := e.attempts + 1 } :: rest } } := by
  simp only [State.outboundSent, h, if_true]

/-- A PUBLISH of the outbound queue that is taken at its origin's home, a MEMBER (R11, R31): it commits, and the blocks
behind the Home Engine take it as any other's. -/
theorem exec_responseWindowClose_of_ownPublish {s : State} {winner : Option Station} {own : OwnFrame} {o : OutboundEntry}
    {rest : List OutboundEntry} (h : s.closingFrame winner (some own) own.frame) (hsynced : s.span.synced = true)
    (hmember : s.formation.state = .member) (houtbound : s.home.outbound = o :: rest) (hsource : own.source = .outbound)
    (hframe : own.frame = o.frame) (hcode : o.frame.code = 11) (hepoch : o.frame.epoch = s.formation.epoch)
    (ack rty : Bool) (order : List Nat) :
    exec (.responseWindowClose ack rty false order) s = .next
      (((((s.windowClosed (some o.frame.sender)).commitPublish o.frame).evidence o.frame.sender).takePublish
        o.frame)).refreshReq := by
  have ⟨_, _, hvalue, hplace, _, _⟩ := h
  have hkind : o.frame.kind = some .publish := Frame.kind_of_code hcode
  have hclosed : s.heardAtClose own.frame.sender = s.windowClosed (some own.frame.sender) := if_pos hsynced
  let l : Lines := { ack := ack || s.span.ack, rty := rty || s.span.rty, chk := false }
  let v : State := (s.windowClosed (some o.frame.sender)).commitPublish o.frame
  have houtcome : frameOutcome own.frame.kind l = .taken := by
    rw [hframe, hkind]
    rfl
  have hsent : (s.windowClosed (some own.frame.sender)).sentAtClose (some own) (frameOutcome own.frame.kind l) l = v := by
    rw [houtcome, State.sentAtClose, State.targetEvidence_of_broadcast _ (by rw [hframe, hcode]; decide), State.ownSent,
      hsource, hframe]
    exact (State.outboundSent_of_head (s := s.windowClosed (some o.frame.sender)) houtbound .taken).trans
      ((if_pos rfl).trans (if_pos hkind))
  have hmember' : v.formation.state = .member := hmember
  rw [exec_responseWindowClose_of_closingFrame h, hclosed,
    State.closeHeard_of_sent rfl hvalue (by rw [hsource]; nofun) hsent hplace, houtcome, hframe]
  simp only [State.handOn, hmember', if_true]
  rw [State.takeAtMember_of_publish hcode (by exact hepoch)]

/-- Settles O54. -/
theorem ownPublishCommitsOrIsResent : Obligations.OwnPublishCommitsOrIsResent := by
  refine ⟨?_, ?_, ?_⟩
  · intro s winner own o rest ack rty order hrest hintruder hhome hsynced hmember hplace hchk houtbound hsource hframe hcode
      hlong hepoch htenure
    have hvalue : own.frame.long = false → own.frame.value = zeroValue := by
      rw [hframe, hlong]
      nofun
    have hexec := exec_responseWindowClose_of_ownPublish ⟨hrest, htenure, hvalue, hplace, hchk, hintruder⟩ hsynced hmember
      houtbound hsource hframe hcode hepoch ack rty order
    obtain ⟨hhome', -, -⟩ := (((s.windowClosed (some o.frame.sender)).commitPublish o.frame).evidence
      o.frame.sender).takePublish_frame o.frame
    have hframe' := ((s.windowClosed (some o.frame.sender)).commitPublish o.frame).evidence_frame o.frame.sender
    have htaken (hcopies : CopyLaw s) (hwatch : WatchLaw s) (htracker : TrackerLaw s) :=
      State.takePublish_publishTaken
        (s := ((s.windowClosed (some o.frame.sender)).commitPublish o.frame).evidence o.frame.sender)
        (CopyLaw.of_copies_eq (s := s) (by rw [hframe']; rfl) hcopies)
        (hwatch.of_watch_eq (by rw [hframe']; rfl))
        (.of_eq (s := s) (by rw [hframe']; rfl) (by rw [hframe']; rfl) htracker) (by rw [hframe']; rfl) o.frame
    generalize ((s.windowClosed (some o.frame.sender)).commitPublish o.frame).evidence o.frame.sender = v at *
    generalize v.takePublish o.frame = t at *
    have hstore (k : Key) : storeGet t.home.store k.toNat =
        if k = o.frame.key then { committed := o.frame.record, publishing := false } else storeGet s.home.store k.toNat := by
      have hkey : k.toNat = o.frame.key.toNat ↔ k = o.frame.key := BitVec.toNat_inj
      rw [hhome', hframe']
      exact (storeGet_storeCommit hhome.store_canonical o.frame.key o.frame.record k.toNat).trans (if_congr hkey rfl rfl)
    have houtbound' : t.home.outbound = rest := by
      rw [hhome', hframe']
      exact congrArg List.tail houtbound
    have hinbound : t.home.inbound = s.home.inbound := by
      rw [hhome', hframe']
      rfl
    refine ⟨t.refreshReq, hexec, ?_, ?_, fun k hk => ⟨?_, ?_⟩, houtbound', hinbound, fun hcopies hwatch htracker => ?_⟩
    · exact (congrArg HomeRecord.committed (hstore _)).trans (by rw [if_pos rfl]; rfl)
    · exact (congrArg HomeRecord.publishing (hstore _)).trans (by rw [if_pos rfl])
    · exact (congrArg HomeRecord.committed (hstore k)).trans (by rw [if_neg hk]; rfl)
    · exact (congrArg HomeRecord.publishing (hstore k)).trans (by rw [if_neg hk]; rfl)
    · refine (htaken hcopies hwatch htracker).congr (engine := ?engine) ?_ ?_ ?_ ?_ ?_ ?_ rfl rfl rfl rfl rfl rfl
      case engine => rw [hframe']; exact CommandEngine.retest_retest _
      all_goals rw [hframe']; rfl
  · intro s winner own bs o rest ack rty chk order hrest hintruder hsynced hplace hvoided hmember houtbound hsource hframe
      hcode htenure
    let w : Option Station := some (if frameIntact bs = true then (Frame.ofBytes bs).sender else winner)
    let v : State := { s.windowClosed w with home := { s.home with
      outbound := { o with attempts := o.attempts + 1 } :: rest } }
    have hsent : (s.windowClosed w).sentAtClose (some own) .voided (s.readLines ack rty chk) = v := by
      rw [State.sentAtClose, State.targetEvidence_of_broadcast _ (by rw [hframe, hcode]; decide), State.ownSent, hsource,
        hframe]
      exact (State.outboundSent_of_head (s := s.windowClosed w) houtbound .voided).trans (if_neg (by nofun))
    have hlines : (s.readLines ack rty chk).chk = true ∨ frameIntact bs = false :=
      .inl (by rw [State.readLines, Bool.or_eq_true]; exact hvoided)
    rw [exec_responseWindowClose_of_window hrest hintruder htenure]
    simp only
    rw [State.endWindow_setWinner_of_computed hsynced, State.closeHeard_of_voided _ _ hlines, hsent,
      State.settlePlace_of_free (by exact hplace)]
    exact ⟨_, rfl, rfl, rfl, rfl, rfl, rfl, rfl, rfl, rfl⟩
  · intro s winner own bs o rest ack rty chk order hrest hintruder hsynced hmember hplace hack hrty houtbound hsource hframe
      hcode hsender htarget htenure sent voided alive closed
    have hnot : o.frame.kind ≠ some .publish := by
      rw [ne_eq, Frame.kind_iff]
      rcases hcode with h | h <;> rw [h] <;> decide
    have hexec {x : SendOutcome} (hx : voided ∧ x = .voided ∨
        (sent ∧ ¬ voided) ∧ x = if ack = true then .taken else .unanswered) :
        exec (.responseWindowClose ack rty chk order) s =
          .next (({ closed with formation := alive } : State).outboundSent o.frame x).refreshReq := by
      have hclose := exec_responseWindowClose_of_ownAddressed hrest hintruder hsynced hmember hplace
        (by rw [hsource]; nofun) (by rw [hframe]; tauto) (by rw [hframe]; exact hsender) htenure hack hrty ack rty chk order
        (o := x) <| hx.imp id fun ⟨⟨⟨hbytes, hvalue⟩, hnot⟩, hx⟩ =>
          ⟨⟨⟨Bool.eq_false_iff.2 fun h => hnot (.inl h), Bool.eq_false_iff.2 fun h => hnot (.inr (.inl h))⟩,
            by rw [hframe]; exact hbytes, by rw [hframe]; exact hvalue⟩,
            by rw [hx, hframe, frameOutcome_of_data hcode rfl]⟩
      rw [hclose, State.ownSent, hsource, hframe]
    have hhead (x : SendOutcome) := State.outboundSent_of_head (s := { closed with formation := alive }) houtbound x
    refine ⟨fun hsent hvoided htrue => ?_, fun hcase => ?_⟩
    · rw [hexec (.inr ⟨⟨hsent, hvoided⟩, rfl⟩), if_pos htrue, hhead, if_pos rfl, if_neg hnot,
        State.popOutbound_of_cons (by exact houtbound)]
      rfl
    · obtain ⟨x, hx, hne⟩ : ∃ x, (voided ∧ x = .voided ∨
          (sent ∧ ¬ voided) ∧ x = if ack = true then .taken else .unanswered) ∧ x ≠ SendOutcome.taken := by
        by_cases hv : voided
        · exact ⟨.voided, .inl ⟨hv, rfl⟩, by nofun⟩
        · obtain ⟨hsent, hack'⟩ := hcase.resolve_left hv
          exact ⟨.unanswered, .inr ⟨⟨hsent, hv⟩, by rw [hack']; rfl⟩, by nofun⟩
      rw [hexec hx, hhead, if_neg hne]
      rfl

end Sys2Proof.Machine
end

section
/-! PROOFS. The end of a frame: what a station that heard it drives in its window (R18, R104), and what one that ignored
it does not (R98, R103). -/

namespace Sys2Proof.Machine

/-! ### The answer to a frame -/

theorem Frame.code_beq (f : Frame) (k : FrameKind) : (f.code == k.code) = decide (f.kind = some k) := by
  rw [Bool.eq_iff_iff, beq_iff_eq, decide_eq_true_eq, Frame.kind_iff]

/-- The station driving the given response lines, with a place held if `place` (R104). -/
def State.answering (s : State) (ack rty chk place : Bool) : State :=
  { s with
    span := { s.span with ack := ack, rty := rty, chk := chk }
    home := { s.home with heldPlace := s.home.heldPlace || place } }

/-- No response line is driven (R104). -/
def SpanInterface.Silent (x : SpanInterface) : Prop :=
  x.ack = false ∧ x.rty = false ∧ x.chk = false

theorem SpanInterface.Silent.eq {x : SpanInterface} (h : x.Silent) :
    x = { x with ack := false, rty := false, chk := false } := by
  obtain ⟨hack, hrty, hchk⟩ := h
  cases x
  cases hack
  cases hrty
  cases hchk
  rfl

theorem State.answering_nothing {s : State} (h : s.span.Silent) : s.answering false false false false = s := by
  rw [State.answering, ← h.eq, Bool.or_false]

theorem State.answering_ack {s : State} (h : s.span.Silent) :
    { s with span := { s.span with ack := true } } = s.answering true false false false := by
  rw [State.answering, Bool.or_false]
  exact congrArg (fun x : SpanInterface => { s with span := { x with ack := true } }) h.eq

theorem State.answering_rty {s : State} (h : s.span.Silent) :
    { s with span := { s.span with rty := true } } = s.answering false true false false := by
  rw [State.answering, Bool.or_false]
  exact congrArg (fun x : SpanInterface => { s with span := { x with rty := true } }) h.eq

theorem State.answering_chk {s : State} (h : s.span.Silent) :
    { s with span := { s.span with chk := true } } = s.answering false false true false := by
  rw [State.answering, Bool.or_false]
  exact congrArg (fun x : SpanInterface => { s with span := { x with chk := true } }) h.eq

theorem State.answering_place {s : State} (h : s.span.Silent) :
    { s with span := { s.span with ack := true }, home := { s.home with heldPlace := true } } =
      s.answering true false false true := by
  rw [State.answering, Bool.or_true]
  exact congrArg (fun x : SpanInterface =>
    { s with span := { x with ack := true }, home := { s.home with heldPlace := true } }) h.eq

/-- The lines that the target of an addressed frame drives, and the place it holds (R18, R29, R104). -/
theorem State.answerFrame_eq {s : State} (h : s.span.Silent) (f : Frame) :
    let request : Bool := s.mayAnswer f && (f.code == 8 || f.code == 9)
    let answer : Bool := s.mayAnswer f && (f.code == 10 || f.code == 12)
    let place : Bool := decide (s.home.inbound.length < 8)
    s.answerFrame f = s.answering (answer || request && place) (request && !place) false (request && place) := by
  have hfetch : (f.code == 8) = decide (f.kind = some .fetch) := f.code_beq .fetch
  have hupdate : (f.code == 9) = decide (f.kind = some .update) := f.code_beq .update
  have hdata : (f.code == 10) = decide (f.kind = some .data) := f.code_beq .data
  have hrefuse : (f.code == 12) = decide (f.kind = some .refuse) := f.code_beq .refuse
  rw [hfetch, hupdate, hdata, hrefuse]
  cases hmay : s.mayAnswer f with
  | false => simpa [State.answerFrame, hmay] using (State.answering_nothing h).symm
  | true =>
    have hrequest : (if s.home.inbound.length < Config.inboundPlaces then
          { s with span := { s.span with ack := true }, home := { s.home with heldPlace := true } }
        else { s with span := { s.span with rty := true } }) =
        s.answering (decide (s.home.inbound.length < 8)) (!decide (s.home.inbound.length < 8)) false
          (decide (s.home.inbound.length < 8)) := by
      have hplaces : Config.inboundPlaces = 8 := rfl
      rw [hplaces]
      by_cases hplace : s.home.inbound.length < 8
      · rw [if_pos hplace, decide_eq_true hplace]
        exact State.answering_place h
      · rw [if_neg hplace, decide_eq_false hplace]
        exact State.answering_rty h
    cases hkind : f.kind with
    | none => simpa [State.answerFrame, hmay, hkind] using (State.answering_nothing h).symm
    | some k =>
      cases k with
      | fetch | update => simpa [State.answerFrame, hmay, hkind] using hrequest
      | data | refuse => simpa [State.answerFrame, hmay, hkind] using State.answering_ack h
      | roll | close | reform | publish => simpa [State.answerFrame, hmay, hkind] using (State.answering_nothing h).symm

/-- The lines of a station that judges a frame: CHK# on a check error, else its answer; the sender answers nothing
(R104, R105). -/
theorem State.judgeFrame_eq {s : State} (h : s.span.Silent) (winner : Option Station) (own : Option OwnFrame)
    (bs : List Byte) :
    let f : Frame := Frame.ofBytes bs
    let answers : Bool := !checkError winner own bs && own.isNone && s.mayAnswer f
    let request : Bool := answers && (f.code == 8 || f.code == 9)
    let answer : Bool := answers && (f.code == 10 || f.code == 12)
    let place : Bool := decide (s.home.inbound.length < 8)
    s.judgeFrame winner own bs =
      s.answering (answer || request && place) (request && !place) (checkError winner own bs) (request && place) := by
  cases hcheck : checkError winner own bs with
  | true =>
    simp only [State.judgeFrame, hcheck, if_true, Bool.not_true, Bool.false_and, Bool.or_self]
    exact State.answering_chk h
  | false =>
    cases own with
    | some x =>
      simp only [State.judgeFrame, hcheck, Bool.false_eq_true, if_false, Option.isNone_some, Bool.and_false,
        Bool.false_and, Bool.or_self]
      exact (State.answering_nothing h).symm
    | none =>
      simp only [State.judgeFrame, hcheck, Bool.false_eq_true, if_false, Option.isNone_none, Bool.not_false, Bool.and_self,
        Bool.true_and]
      exact State.answerFrame_eq h _

theorem State.eventAt_max (s : State) (t : Time) : s.eventAt (max s.clock t) = s.eventAt t := by
  rw [State.eventAt, State.eventAt, ← max_assoc, max_self]

/-- Settles O45. -/
theorem frameEndIsAnsweredInItsWindow : Obligations.FrameEndIsAnsweredInItsWindow := by
  have hexec {s : State} (hrest : s.atRest) (bs : List Byte) :
      exec (.frameHeard bs) s = .next (s.startEvent.hearFrame bs).refreshReq := by
    change Host.Outcome.next (if s.live then s.onEvent fun s => s.hearFrame bs else _) = _
    rw [if_pos hrest.1, State.onEvent_of_atRest hrest]
  refine ⟨?_, ?_⟩
  · intro s bs since winner own hrest law hspd htenure hplace
    let now : Time := max s.clock (since + (4 + 4 * bs.length))
    let r : State := s.startEvent.releaseSpd since bs.length
    have hsilent : r.span.Silent := by
      have hquiet (hline : s.span.ack = true ∨ s.span.rty = true ∨ s.span.chk = true) : False := by
        obtain ⟨w, o, heard, hwindow⟩ := law.lines_in_window hline
        exact nomatch htenure.symm.trans hwindow
      exact ⟨Bool.eq_false_iff.2 fun h => hquiet (.inl h), Bool.eq_false_iff.2 fun h => hquiet (.inr (.inl h)),
        Bool.eq_false_iff.2 fun h => hquiet (.inr (.inr h))⟩
    have hheard : s.startEvent.hearFrame bs =
        { r.judgeFrame winner own bs with
          span := { (r.judgeFrame winner own bs).span with tenure := .window winner own (some bs) } } := by
      simp only [State.hearFrame, State.startEvent_span, State.startEvent_pins, htenure, hspd]
      rfl
    have hmay (f : Frame) : (!checkError winner own bs && own.isNone && r.mayAnswer f) =
        (!checkError winner own bs && own.isNone && s.formation.state == .member && f.epoch == s.formation.epoch &&
          f.target == s.pins.station) := by
      simp only [State.mayAnswer, Bool.and_assoc]
      rfl
    rw [hexec hrest, hheard, State.judgeFrame_eq hsilent]
    simp only [hmay, State.answering]
    rw [show r.home.heldPlace = false from hplace]
    simp only [Bool.false_or, State.eventAt_max]
    rfl
  · intro s bs hrest ignored
    have hunheard (begun : Time) (w : Option Station) :
        ((s.startEvent.releaseSpd begun bs.length).openUnheard w).refreshReq = (ignored begun w).refreshReq := by
      simp only [ignored, State.eventAt_max]
      rfl
    refine ⟨fun w point htenure => ⟨fun begun hspd => ?_, fun hspd => ?_⟩, fun htenure => ⟨fun begun hspd => ?_, fun hspd => ?_⟩,
      ?_⟩
    · rw [hexec hrest, ← hunheard]
      simp only [State.hearFrame, State.startEvent_span, State.startEvent_pins, htenure, hspd, Option.getD_some]
    · rw [hexec hrest, ← hunheard]
      simp only [State.hearFrame, State.startEvent_span, State.startEvent_pins, htenure, hspd, Option.getD_none]
      rfl
    · rw [hexec hrest, ← hunheard]
      simp only [State.hearFrame, State.startEvent_span, State.startEvent_pins, htenure, hspd, Option.getD_some]
    · rw [hexec hrest, ← hunheard]
      simp only [State.hearFrame, State.startEvent_span, State.startEvent_pins, htenure, hspd, Option.getD_none]
      rfl
    · rintro ⟨w, own, heard, htenure⟩
      have hheard : s.startEvent.hearFrame bs = s.startEvent.releaseIntruder bs := by
        simp only [State.hearFrame, State.startEvent_span, htenure]
      rw [hexec hrest, hheard]
      simp only [State.eventAt_max]
      rfl

end Sys2Proof.Machine
end

section
/-! PROOFS. A frame that is voided, unanswered, filtered or not for this station (R19, R101, R106, R107, R112, R133), and
SPD± driven inside a window (notes/assumptions/29.md). -/

namespace Sys2Proof.Machine

/-! ### A frame that nobody takes -/

/-- A place held for a frame that was not taken is released (R19). -/
theorem State.settlePlace_of_untaken (s : State) (f : Frame) {o : SendOutcome} (h : o ≠ .taken) :
    s.settlePlace f o = { s with
      home := { s.home with heldPlace := false }
      engine := if s.home.heldPlace = true then s.engine.retest else s.engine } := by
  rw [State.settlePlace, if_neg h]
  cases hplace : s.home.heldPlace with
  | true => rfl
  | false =>
    have hhome : { s.home with heldPlace := false } = s.home := by rw [← hplace]
    simp only [hhome, Bool.false_eq_true, if_false]

/-- The frames of which the sources make nothing but where they are taken: another station's, and the station's own
ROLL, CLOSE or REFORM (R112). -/
def ForeignOrFormation (own : Option OwnFrame) : Prop :=
  own = none ∨ ∃ (x : OwnFrame) (kind : FrameKind),
    own = some x ∧ x.source = .formation kind ∧ x.frame.code ∈ ([1, 2, 3] : List (BitVec 4))

theorem State.sentAtClose_of_untaken (s : State) {own : Option OwnFrame} (hown : ForeignOrFormation own)
    {o : SendOutcome} (h : o ≠ .taken) (l : Lines) : s.sentAtClose own o l = s := by
  rcases hown with rfl | ⟨x, kind, rfl, hsource, hcode⟩
  · rfl
  · rw [State.sentAtClose, State.targetEvidence_of_broadcast s ((List.prefix_append [1, 2, 3] [11]).subset hcode),
      State.ownSent, hsource]
    exact if_neg h

/-- An addressed frame without ACK# is not taken (R106). -/
theorem frameOutcome_of_silence {f : Frame} (hcode : f.code ∈ ([8, 9, 10, 12] : List (BitVec 4))) {l : Lines}
    (hchk : l.chk = false) (hack : l.ack = false) : frameOutcome f.kind l ≠ .taken := by
  have hnot : ¬ l.ack = true := by rw [hack]; nofun
  simp only [List.mem_cons, List.not_mem_nil, or_false] at hcode
  rcases hcode with h | h | h
  · rw [frameOutcome_of_request (.inl h) hchk, if_neg hnot]
    split <;> nofun
  · rw [frameOutcome_of_request (.inr h) hchk, if_neg hnot]
    split <;> nofun
  · rw [frameOutcome_of_data h hchk, if_neg hnot]
    nofun

/-- Only an EXCLUDED station does anything with a frame that is not taken (R107). -/
theorem State.handOn_of_untaken {s : State} (h : s.formation.state ≠ .excluded) (f : Frame) {o : SendOutcome}
    (ho : o ≠ .taken) (isOwn : Bool) (order : List Nat) : s.handOn f o isOwn order = s := by
  cases hstate : s.formation.state with
  | excluded => exact absurd hstate h
  | listen | rolled | member => simp only [State.handOn, hstate, if_neg ho]

theorem State.handOn_excluded {s : State} (h : s.formation.state = .excluded) (f : Frame) (o : SendOutcome)
    (isOwn : Bool) (order : List Nat) : s.handOn f o isOwn order = s.hearExcluded f o order := by
  simp only [State.handOn, h]

/-- A frame that is voided, or addressed and not acknowledged, is taken by no block (R106, R107). -/
theorem State.closeHeard_of_untaken {s : State} {own : Option OwnFrame} (hown : ForeignOrFormation own) {bs : List Byte}
    {l : Lines}
    (h : (l.chk = true ∨ frameIntact bs = false) ∨
      (Frame.ofBytes bs).code ∈ ([8, 9, 10, 12] : List (BitVec 4)) ∧ l.ack = false ∧ s.formation.state ≠ .excluded)
    (order : List Nat) :
    s.closeHeard own bs l order = { s with
      home := { s.home with heldPlace := false }
      engine := if s.home.heldPlace = true then s.engine.retest else s.engine } := by
  by_cases hvoided : l.chk = true ∨ frameIntact bs = false
  · rw [State.closeHeard_of_voided s own hvoided, s.sentAtClose_of_untaken hown (by nofun),
      s.settlePlace_of_untaken _ (by nofun)]
  · obtain ⟨hcode, hack, hstate⟩ := h.resolve_left hvoided
    obtain ⟨hchk, hintact⟩ := not_or.1 hvoided
    have hchk : l.chk = false := Bool.eq_false_iff.2 hchk
    have hintact : frameIntact bs = true := by simpa using hintact
    have hnot : frameOutcome (Frame.ofBytes bs).kind l ≠ .taken := frameOutcome_of_silence hcode hchk hack
    rw [State.closeHeard_eq]
    simp only [hintact, if_true, hchk, Bool.not_true, Bool.or_self, Bool.false_eq_true, if_false]
    rw [s.sentAtClose_of_untaken hown hnot, s.settlePlace_of_untaken _ hnot, State.handOn_of_untaken (by exact hstate) _ hnot]
    cases own with
    | none => rfl
    | some x => exact if_neg fun hh => hnot hh.2.1

/-! ### SPD± driven inside the window -/

/-- The close of a window leaves the Span Interface silent and its idle timer just restarted. -/
theorem State.closed_span {s : State} (winner : Option Station) (heard : Option (List Byte)) :
    let t := s.startEvent.endWindow.setWinner winner heard
    t.span.Silent ∧ t.span.idleTimer = .running t.clock := by
  cases heard with
  | none =>
    rw [State.endWindow_setWinner_unheard]
    exact ⟨⟨rfl, rfl, rfl⟩, rfl⟩
  | some bs =>
    rw [State.endWindow_setWinner_eq]
    exact ⟨⟨rfl, rfl, rfl⟩, rfl⟩

/-- The REQ line after a change of the idle timer, the tenure and the response lines: the idle timer has just
restarted, or stands (R102). -/
theorem State.refreshReq_of_span {s : State} {pins : Pins} {span : SpanInterface} {held : Bool}
    (hstation : pins.station = s.pins.station) (hreset : pins.resetLow = s.pins.resetLow)
    (hsynced : span.synced = s.span.synced) (hreq : span.req = s.span.req) (hidle : span.idleTimer = .held)
    (hrunning : s.span.idleTimer = .running s.clock) :
    ({ s with pins := pins, span := span, home := { s.home with heldPlace := held } } : State).refreshReq =
      { s.refreshReq with
        pins := pins
        span := { span with req := s.refreshReq.span.req }
        home := { s.home with heldPlace := held } } := by
  have hhold : s.idleHold = false := by
    simp only [State.idleHold, hrunning, decide_eq_false_iff_not]
    exact Nat.not_le.2 (Nat.lt_add_of_pos_right (by decide))
  have hchoose : ({ s with pins := pins, span := span, home := { s.home with heldPlace := held } } : State).chooseFrame =
      s.chooseFrame := by
    simp only [State.chooseFrame, hstation]
    rfl
  have hlive : ({ s with pins := pins, span := span, home := { s.home with heldPlace := held } } : State).live =
      s.live := by
    simp only [State.live, hreset]
  have hheld : ({ s with pins := pins, span := span, home := { s.home with heldPlace := held } } : State).idleHold =
      false := by
    simp only [State.idleHold, hidle]
  have hline : ({ s with pins := pins, span := span, home := { s.home with heldPlace := held } } :
      State).refreshReq.span.req = s.refreshReq.span.req := by
    rw [State.refreshReq_req, State.refreshReq_req, hchoose, hlive, hheld, hhold]
    exact congrArg₂ (fun x y => s.live && x && s.chooseFrame.isSome && (y || !false)) hsynced hreq
  exact congrArg (fun req : Bool => { s with
    pins := pins, span := { span with req := req }, home := { s.home with heldPlace := held } }) hline

/-- The close of the window at a station at rest, whatever SPD± did in it: the close of the same window without it, and
then what SPD± did is followed (notes/assumptions/29.md). -/
theorem exec_responseWindowClose_of_intruder {s : State} {winner : Option Station} {own : Option OwnFrame}
    {heard : Option (List Byte)} (hrest : s.atRest) (htenure : s.span.tenure = .window winner own heard)
    (ack rty chk : Bool) (order : List Nat) :
    ∃ t : State, t.span.Silent ∧ t.span.idleTimer = .running t.clock ∧ ∀ x : Intrusion,
      exec (.responseWindowClose ack rty chk order) { s with span := { s.span with intruder := x } } =
        .next (t.followIntruder x).refreshReq := by
  obtain ⟨hsilent, hidle⟩ := State.closed_span (s := s) winner heard
  have hexec (x : Intrusion) := State.onEvent_of_atRest (s := { s with span := { s.span with intruder := x } }) hrest
    fun s => s.closeWindow ack rty chk order
  cases heard with
  | none =>
    refine ⟨_, hsilent, hidle, fun x => congrArg Host.Outcome.next ((hexec x).trans ?_)⟩
    simp only [State.closeWindow, State.startEvent_span, htenure]
    rfl
  | some bs =>
    have hworks := State.works_closeHeard (s := s.startEvent.endWindow.setWinner winner (some bs)) own bs
      (s.readLines ack rty chk) order (State.setWinner_synced _ winner)
    obtain ⟨hclock, -, hspan, -⟩ := hworks.frame
    refine ⟨_, hspan ▸ hsilent, by rw [hspan, hclock]; exact hidle, fun x => congrArg Host.Outcome.next ((hexec x).trans ?_)⟩
    simp only [State.closeWindow, State.startEvent_span, htenure]
    rfl

/-! ### The obligation -/

/-- Settles O49. -/
theorem untakenFrameTouchesNoBlock : Obligations.UntakenFrameTouchesNoBlock := by
  refine ⟨?_, ?_, ?_, ?_, ?_, ?_⟩
  · intro s winner own bs ack rty chk order hrest hintruder htenure hexcluded hown huntaken intact closed
    have hclosed := s.endWindow_setWinner_eq winner bs
    rw [exec_responseWindowClose_of_window hrest hintruder htenure]
    simp only
    have hstate : (s.startEvent.endWindow.setWinner winner (some bs)).formation.state = s.formation.state := by
      rw [hclosed]
      dsimp only
      split <;> rfl
    have hlines : ((s.readLines ack rty chk).chk = true ∨ frameIntact bs = false) ∨
        (Frame.ofBytes bs).code ∈ ([8, 9, 10, 12] : List (BitVec 4)) ∧ (s.readLines ack rty chk).ack = false ∧
          (s.startEvent.endWindow.setWinner winner (some bs)).formation.state ≠ .excluded := by
      simp only [State.readLines, Bool.or_eq_true, Bool.or_eq_false_iff, hstate]
      tauto
    rw [State.closeHeard_of_untaken hown hlines, hclosed]
    rfl
  · intro s winner own ack rty chk order hrest hintruder htenure
    rw [exec_responseWindowClose_of_window hrest hintruder htenure]
    simp only
    rw [State.endWindow_setWinner_unheard]
    rfl
  · intro s ack rty chk order hrest htenure open_
    have hexec : exec (.responseWindowClose ack rty chk order) s =
        .next (s.startEvent.closeWindow ack rty chk order).refreshReq :=
      congrArg Host.Outcome.next (State.onEvent_of_atRest hrest fun s => s.closeWindow ack rty chk order)
    have hunheard : s.startEvent.unheardWindow = true ↔ s.span.idleTimer = .held ∨ s.clock < s.pins.spdReleased + 50 := by
      rw [State.unheardWindow, Bool.or_eq_true, beq_iff_eq, decide_eq_true_eq]
      rfl
    have hstays : s.startEvent = s.eventAt s.clock := by
      rw [State.eventAt, max_self]
      rfl
    refine ⟨fun ⟨hspd, hwindow⟩ => ?_, fun hshut => ?_⟩
    · rw [hexec]
      simp only [State.closeWindow, State.startEvent_span, State.startEvent_pins, htenure, hspd, hunheard.2 hwindow, if_true]
      rfl
    · rw [hexec, ← hstays]
      cases hspd : s.pins.spdSince with
      | none =>
        have hnot : ¬ s.startEvent.unheardWindow = true := fun h => hshut ⟨hspd, hunheard.1 h⟩
        simp only [State.closeWindow, State.startEvent_span, State.startEvent_pins, htenure, hspd, if_neg hnot]
      | some since => simp only [State.closeWindow, State.startEvent_span, State.startEvent_pins, htenure, hspd]
  · intro s winner bs ack rty order hrest hsynced hexcluded htenure hintruder hintact hchk hplace hcode
    have hclosed : s.startEvent.endWindow.setWinner winner (some bs) = s.windowClosed (some (Frame.ofBytes bs).sender) := by
      rw [State.endWindow_setWinner_of_synced hsynced, if_pos hintact]
    have hlines : (s.readLines ack rty false).chk = false := hchk
    have hheard (o : SendOutcome) : (s.windowClosed (some (Frame.ofBytes bs).sender)).handOn (Frame.ofBytes bs) o false
        order = { s.windowClosed (some (Frame.ofBytes bs).sender) with
          formation := { s.formation with epoch := (Frame.ofBytes bs).epoch } } := by
      have hstate : (s.windowClosed (some (Frame.ofBytes bs).sender)).formation.state = .excluded := hexcluded
      rw [State.handOn_excluded hstate, State.hearExcluded, if_neg]
      · rfl
      · rintro ⟨hkind, -, hepoch⟩
        exact hcode.elim (fun hne => hne (Frame.kind_iff.1 hkind)) hepoch
    rw [exec_responseWindowClose_of_window hrest hintruder htenure]
    simp only
    rw [hclosed, State.closeHeard_eq]
    simp only [hintact, hlines, Bool.not_true, Bool.or_self, Bool.false_eq_true, if_false, State.sentAtClose]
    rw [State.settlePlace_of_free (by exact hplace), Option.isSome_none, hheard]
  · intro s winner f ack rty order hclosing hsynced hmember hcase
    have hclosed : (s.windowClosed (some f.sender)).formation.state = .member := hmember
    rw [exec_responseWindowClose_of_closingWindow hclosing hsynced]
    rcases hcase with ⟨hcode, hepoch⟩ | ⟨hcode, hack, hother⟩
    · rw [frameOutcome_taken (.inr (.inl hcode)), if_neg hepoch]
      simp only [State.handOn, hclosed, if_true, State.takeAtMember, Frame.kind_of_code (k := .publish) hcode]
      rw [if_neg (by exact hepoch)]
      rfl
    · have hcode' : f.code = 8 ∨ f.code = 9 := by simpa using hcode
      rw [frameOutcome_of_request hcode' rfl, if_pos (by simpa using hack)]
      simp only [State.handOn, hclosed, if_true, State.takeAtMember_of_request _ hcode']
      rw [State.evidence_of_close hmember]
      by_cases hepoch : f.epoch = s.formation.epoch
      · rw [if_pos (by exact hepoch), if_pos hepoch]
      · rw [if_neg (by exact hepoch), if_neg hepoch]
        rfl
  · intro s winner own heard ack rty chk order hrest htenure closes
    obtain ⟨t, hsilent, hidle, hexec⟩ := exec_responseWindowClose_of_intruder hrest htenure ack rty chk order
    refine ⟨t.refreshReq, hexec .absent, fun started => ?_, fun since => ?_, fun since bs => ?_⟩
    · exact (hexec _).trans (congrArg Host.Outcome.next (State.refreshReq_of_span rfl rfl rfl rfl rfl hidle))
    · exact (hexec _).trans (congrArg Host.Outcome.next (State.refreshReq_of_span rfl rfl rfl rfl rfl hidle))
    · have hmay : (!checkError none none bs && (none : Option OwnFrame).isNone &&
          ({ t with pins := { t.pins with spdReleased := since } } : State).mayAnswer (Frame.ofBytes bs)) =
          (!checkError none none bs && t.formation.state == .member && (Frame.ofBytes bs).epoch == t.formation.epoch &&
            (Frame.ofBytes bs).target == t.pins.station) := by
        simp only [State.mayAnswer, Option.isNone_none, Bool.and_true, Bool.and_assoc]
      have hjudge := State.judgeFrame_eq (s := { t with pins := { t.pins with spdReleased := since } }) hsilent none none bs
      refine (hexec _).trans (congrArg Host.Outcome.next ?_)
      simp only [State.followIntruder, hjudge, hmay]
      exact State.refreshReq_of_span rfl rfl rfl rfl rfl hidle

end Sys2Proof.Machine
end

section
/-! PROOFS. The Span Interface up to the frame: idle time (R103), the winner (R100), the frame it sends (R78, R110), and how
a frame begins (R98, R99). -/

namespace Sys2Proof.Machine

/-! ### Idle time -/

/-- Settles O40. -/
theorem idleTimeoutSetsLastWinner : Obligations.IdleTimeoutSetsLastWinner := by
  intro s since hrest hidle
  have hexec : exec .idleTimeout s = .next s.startEvent.idleExpires.refreshReq :=
    congrArg Host.Outcome.next (State.onEvent_of_atRest hrest State.idleExpires)
  rw [hexec]
  simp only [State.idleExpires, State.startEvent_span, hidle]
  cases hsynced : s.span.synced with
  | true =>
    rw [if_pos (by exact hsynced), if_neg (by nofun), ← hsynced]
    rfl
  | false =>
    rw [if_neg (by exact Bool.eq_false_iff.1 hsynced)]
    simp only [true_and]
    rfl

/-! ### The winner -/

/-- The stations after the last winner, in circular order, by their distance from it (R100). -/
theorem pairwise_stationsFrom (last : Station) :
    (allStations.map (last + 1 + ·)).Pairwise fun v w => (v - last - 1).toNat < (w - last - 1).toNat := by
  decide +revert

theorem mem_stationsFrom (last v : Station) : v ∈ allStations.map (last + 1 + ·) := by
  decide +revert

/-- The winner is the asserted line at the least distance behind the last winner (R100). -/
theorem roundRobin_eq_some {last : Station} {req : StationSet} {w : Station} (hw : inSet req w = true)
    (hleast : ∀ v, inSet req v = true → (w - last - 1).toNat ≤ (v - last - 1).toNat) : roundRobin last req = some w :=
  (find?_eq_some_iff_least (pairwise_stationsFrom last)).2 ⟨mem_stationsFrom last w, hw, fun v _ hlt =>
    Bool.eq_false_iff.2 fun hv => absurd hlt (Nat.not_lt.2 (hleast v hv))⟩

theorem roundRobin_eq_none {last : Station} {req : StationSet} (h : ∀ v, inSet req v = false) :
    roundRobin last req = none :=
  List.find?_eq_none.2 fun v _ => Bool.eq_false_iff.1 (h v)

/-- The sixteen lines: the others' as given, the own line as the station drives it (R97). -/
theorem State.inSet_reqLines (s : State) (req : StationSet) (v : Station) :
    inSet (s.reqLines req) v = if v = s.pins.station then s.reqAtPoint else req.getLsbD v.toNat := by
  have hbit (b : Bool) : (if b then stationBit s.pins.station else 0 : StationSet).getLsbD v.toNat =
      (b && (s.pins.station == v)) := by
    cases b
    · simp
    · simpa using stationBit_getLsbD s.pins.station v
  rw [inSet, State.reqLines, BitVec.getLsbD_or, hbit, BitVec.getLsbD_and, BitVec.getLsbD_not, stationBit_getLsbD]
  have hv : v.toNat < 16 := v.isLt
  by_cases h : v = s.pins.station
  · subst h
    simp
  · have hne : (s.pins.station == v) = false := beq_false_of_ne fun hh => h hh.symm
    simp [h, hne, hv]

/-- Settles O41. -/
theorem arbitrationPointPicksRoundRobinWinner : Obligations.ArbitrationPointPicksRoundRobinWinner := by
  intro s u req last hrest hsynced htenure hspd hlast now asserted at_
  have hlines (v : Station) : inSet (at_.reqLines req) v = asserted v := by
    rw [State.inSet_reqLines]
    rfl
  have hexec : exec (.arbitrationPoint u req) s = .next ({ at_ with span := { s.span with
      reqAtClose := none
      tenure :=
        match roundRobin last (at_.reqLines req) with
        | some w => .won w now (if w = s.pins.station then at_.chooseFrame else none)
        | none => .quiet
      afterEmpty := s.span.afterEmpty && (roundRobin last (at_.reqLines req)).isNone } } : State).refreshReq := by
    have hpoint : (s.startEvent.advance u).arbitrate req = at_.arbitrate req := rfl
    change Host.Outcome.next (s.onEvent fun s => (s.advance u).arbitrate req) = _
    rw [State.onEvent_of_atRest hrest, hpoint]
    have htenure' : at_.span.tenure = .quiet := htenure
    have hspd' : at_.pins.spdSince = none := hspd
    have hlast' : at_.span.lastWinner = some last := hlast
    simp only [State.arbitrate, htenure', hspd', hlast']
    rw [if_pos (by exact hsynced), hlast]
    rfl
  refine ⟨fun hnone => ?_, fun w hw hleast => ?_⟩
  · rw [hexec, roundRobin_eq_none fun v => (hlines v).trans (hnone v)]
    simp only [Option.isNone_none, Bool.and_true, ← htenure]
  · rw [hexec, roundRobin_eq_some ((hlines w).trans hw) fun v hv => hleast v ((hlines v).symm.trans hv)]
    simp only [Option.isNone_some, Bool.and_false]

/-! ### The frame that a winner sends -/

theorem PendingEntry.candidate_iff (e : PendingEntry) (now : Time) :
    e.candidate now = true ↔ e.state = .queued ∧ e.readyTime ≤ now ∧ e.attempts < 8 ∧ e.retries < 16 := by
  have hattempts : Config.attemptLimit = 8 := rfl
  have hretries : Config.retryLimit = 16 := rfl
  simp [PendingEntry.candidate, hattempts, hretries, and_assoc]

/-- The entries that may be sent, in ascending index. -/
def RequestTracker.candidates (t : RequestTracker) (now : Time) : List (Fin 8 × PendingEntry) :=
  allEntries.filterMap fun i =>
    match t.entries[i] with
    | some e => if e.candidate now then some (i, e) else none
    | none => none

theorem RequestTracker.mem_candidates (t : RequestTracker) (now : Time) (i : Fin 8) (e : PendingEntry) :
    (i, e) ∈ t.candidates now ↔ t.entries[i] = some e ∧ e.candidate now = true := by
  rw [RequestTracker.candidates, List.mem_filterMap]
  refine ⟨fun ⟨j, _, hj⟩ => ?_, fun ⟨he, hc⟩ => ⟨i, mem_allEntries i, by simp only [he, hc, if_true]⟩⟩
  split at hj
  next x hx =>
    split at hj
    next hc =>
      obtain ⟨rfl, rfl⟩ := Prod.mk.inj (Option.some.inj hj)
      exact ⟨hx, hc⟩
    next => exact nomatch hj
  next => exact nomatch hj

theorem RequestTracker.candidates_ascend (t : RequestTracker) (now : Time) :
    (t.candidates now).Pairwise fun x y => x.1 < y.1 := by
  have hindex (i : Fin 8) (x : Fin 8 × PendingEntry)
      (h : (match t.entries[i] with
        | some e => if e.candidate now then some (i, e) else none
        | none => none) = some x) : x.1 = i := by
    split at h
    · split at h
      · rw [← Option.some.inj h]
      · exact nomatch h
    · exact nomatch h
  rw [RequestTracker.candidates, List.pairwise_filterMap]
  have hascend : allEntries.Pairwise (· < ·) := by decide
  exact hascend.imp fun {i j} hij x hx y hy => by rw [hindex i x hx, hindex j y hy]; exact hij

/-- The search keeps the first candidate of the least ready time (R78, R110). -/
theorem RequestTracker.nextToSend_eq_argmin (t : RequestTracker) (now : Time) :
    t.nextToSend now = (t.candidates now).argmin fun x => x.2.readyTime := by
  rw [RequestTracker.candidates, List.argmin, List.foldl_filterMap, RequestTracker.nextToSend]
  congr 1
  funext best i
  cases t.entries[i] with
  | none => rfl
  | some e =>
    simp only
    split
    · cases best <;> rfl
    · rfl

theorem RequestTracker.nextToSend_eq_none_iff (t : RequestTracker) (now : Time) :
    t.nextToSend now = none ↔ ∀ (i : Fin 8) (e : PendingEntry), t.entries[i] = some e → e.candidate now = false := by
  rw [t.nextToSend_eq_argmin, List.argmin_eq_none, List.eq_nil_iff_forall_not_mem]
  simp only [Prod.forall, t.mem_candidates, not_and, Bool.not_eq_true]

/-- In a list that rises in `R`, an element that stands no later than another is that element or below it. -/
theorem eq_or_rel_of_idxOf_le {α : Type} [DecidableEq α] {R : α → α → Prop} {xs : List α} (h : xs.Pairwise R) {a b : α}
    (ha : a ∈ xs) (hb : b ∈ xs) (hle : xs.idxOf a ≤ xs.idxOf b) : a = b ∨ R a b := by
  have ha' := List.idxOf_lt_length_of_mem ha
  have hb' := List.idxOf_lt_length_of_mem hb
  rcases hle.lt_or_eq with hlt | heq
  · have hrel := List.pairwise_iff_getElem.1 h _ _ ha' hb' hlt
    rw [List.getElem_idxOf, List.getElem_idxOf] at hrel
    exact .inr hrel
  · exact .inl ((List.idxOf_inj ha).1 heq)

/-- The candidate of the least ready time, and of the lowest index among those of that time, is sent. -/
theorem RequestTracker.nextToSend_eq_some {t : RequestTracker} {now : Time} {i : Fin 8} {e : PendingEntry}
    (he : t.entries[i] = some e) (hc : e.candidate now = true)
    (hleast : ∀ (j : Fin 8) (x : PendingEntry), t.entries[j] = some x → x.candidate now = true →
      e.readyTime < x.readyTime ∨ (e.readyTime = x.readyTime ∧ i ≤ j)) :
    t.nextToSend now = some (i, e) := by
  have hmem : (i, e) ∈ t.candidates now := (t.mem_candidates now i e).2 ⟨he, hc⟩
  cases hnext : t.nextToSend now with
  | none => exact nomatch hc.symm.trans ((t.nextToSend_eq_none_iff now).1 hnext i e he)
  | some b =>
    obtain ⟨j, x⟩ := b
    have hfound : (j, x) ∈ (t.candidates now).argmin fun x => x.2.readyTime := t.nextToSend_eq_argmin now ▸ hnext
    obtain ⟨hx, hmin, hfirst⟩ := List.mem_argmin_iff.1 hfound
    obtain ⟨hxe, hxc⟩ := (t.mem_candidates now j x).1 hx
    have htime : e.readyTime ≤ x.readyTime := by
      rcases hleast j x hxe hxc with h | h
      · exact h.le
      · exact h.1.le
    have heq : x.readyTime = e.readyTime := Nat.le_antisymm (hmin _ hmem) htime
    have hij : i ≤ j := by
      rcases hleast j x hxe hxc with h | h
      · exact absurd heq h.ne'
      · exact h.2
    have hji : j ≤ i := by
      rcases eq_or_rel_of_idxOf_le (t.candidates_ascend now) hx hmem (hfirst _ hmem htime) with hsame | hlt
      · exact (Prod.mk.inj hsame).1.le
      · exact hlt.le
    obtain rfl : i = j := le_antisymm hij hji
    rw [Option.some.inj (he.symm.trans hxe)]

theorem OutboundEntry.candidate_iff (o : OutboundEntry) : o.candidate = true ↔ o.attempts < 8 := by
  rw [OutboundEntry.candidate, decide_eq_true_eq]
  rfl

/-- Without a formation frame, the outbound head or a request is sent (R110). -/
theorem State.chooseFrame_of_no_formation {s : State} (hreform : s.formation.reform = none)
    (hroll : s.formation.roll = none) (hclose : s.formation.close = none) :
    s.chooseFrame = match s.home.outboundHead with
      | some o => some { source := .outbound, frame := o.frame }
      | none => (s.tracker.nextToSend s.clock).map fun x =>
        { source := .request x.1 x.2.tag, frame := requestFrame s.pins.station s.formation.epoch x.2 } := by
  simp only [State.chooseFrame, hreform, hroll, hclose]
  cases s.home.outboundHead with
  | some o => rfl
  | none => cases s.tracker.nextToSend s.clock <;> rfl

/-- Settles O42. -/
theorem winnerSendsTheFirstCandidate : Obligations.WinnerSendsTheFirstCandidate := by
  intro s
  refine ⟨fun e hreform => ?_, fun p hreform hroll => ?_, fun c hreform hroll hclose => ?_,
    fun hreform hroll hclose => ⟨fun o rest houtbound hattempts => ?_, fun houtbound => ?_⟩⟩
  · simp only [State.chooseFrame, hreform]
    rfl
  · simp only [State.chooseFrame, hreform, hroll]
    rfl
  · simp only [State.chooseFrame, hreform, hroll, hclose]
    rfl
  · have hhead : s.home.outboundHead = some o := by
      simp only [HomeEngine.outboundHead, houtbound, o.candidate_iff.2 hattempts, if_true]
    rw [State.chooseFrame_of_no_formation hreform hroll hclose, hhead]
  · have hhead : s.home.outboundHead = none := by
      simp only [HomeEngine.outboundHead, houtbound]
    have hchoose := State.chooseFrame_of_no_formation hreform hroll hclose
    rw [hhead] at hchoose
    have hready (i : Fin 8) (e : PendingEntry) : (s.tracker.entries[i] = some e ∧ e.candidate s.clock = true) ↔
        (s.tracker.entries[i] = some e ∧ e.state = .queued ∧ e.readyTime ≤ s.clock ∧ e.attempts < 8 ∧ e.retries < 16) := by
      rw [e.candidate_iff]
    constructor
    · rw [hchoose, Option.map_eq_none_iff, RequestTracker.nextToSend_eq_none_iff]
      refine forall₂_congr fun i e => ?_
      beta_reduce
      rw [← hready]
      simp
    · intro i e he hleast
      obtain ⟨hentry, hcandidate⟩ := (hready i e).2 he
      rw [hchoose, RequestTracker.nextToSend_eq_some hentry hcandidate fun j x hx hc => hleast j x ((hready j x).1 ⟨hx, hc⟩),
        Option.map_some, requestFrame]
      cases e.update with
      | none => rfl
      | some u => cases u with | mk op expected wordIndex value => cases op <;> rfl

/-! ### How a frame begins -/

/-- Settles O43. -/
theorem frameStartsOrTenureStaysEmpty : Obligations.FrameStartsOrTenureStaysEmpty := by
  intro s start hrest hspd driven
  have hexec : exec (.frameStart start) s = .next (s.startEvent.beginFrame start.time start.heard).refreshReq := by
    change Host.Outcome.next (if s.live then s.onEvent fun s => s.beginFrame start.time start.heard else _) = _
    rw [if_pos hrest.1, State.onEvent_of_atRest hrest]
  refine ⟨fun w since own htenure => ?_, fun w since htenure => ⟨fun hin => ?_, fun hlate => ?_, ?_⟩, fun htenure => ?_, ?_⟩
  · rw [hexec]
    simp only [State.beginFrame, State.startEvent_pins, hspd, State.startEvent_span, htenure]
    rfl
  · rw [hexec]
    simp only [State.beginFrame, State.startEvent_pins, hspd, State.startEvent_span, htenure]
    rw [if_pos (by exact hin)]
    rfl
  · rw [hexec]
    simp only [State.beginFrame, State.startEvent_pins, hspd, State.startEvent_span, htenure]
    rw [if_neg (by exact Nat.not_le.2 hlate)]
    simp only [State.endEmptyTenure, State.startEvent_pins, hspd, State.startEvent_span, htenure]
    have hclock : max (max s.clock (since + Timing.emptyTenure)) start.time = max s.clock start.time := by
      rw [max_right_comm]
      exact max_eq_left hlate.le
    exact congrArg (fun now => Host.Outcome.next (State.refreshReq { s.eventAt start.time with
      clock := now
      pins := { s.pins with spdSince := some now }
      span := { s.span with tenure := .quiet, lastWinner := some w, afterEmpty := true, idleTimer := .held } })) hclock
  · have hempty : exec .emptyTenureEnd s = .next s.startEvent.endEmptyTenure.refreshReq :=
      congrArg Host.Outcome.next (State.onEvent_of_atRest hrest State.endEmptyTenure)
    rw [hempty]
    simp only [State.endEmptyTenure, State.startEvent_pins, hspd, State.startEvent_span, htenure]
    rfl
  · rw [hexec]
    simp only [State.beginFrame, State.startEvent_pins, hspd, State.startEvent_span, htenure]
    have hstart : s.startEvent.startInQuiet start.heard =
        if start.heard = true ∧ ¬ (s.span.synced = true ∧ s.span.afterEmpty = true) then .frame none none else .quiet := by
      cases hsynced : s.span.synced <;> simp [State.startInQuiet, hsynced]
    rw [hstart]
    rfl
  · rintro ⟨w, own, heard, htenure⟩
    rw [hexec]
    simp only [State.beginFrame, State.startEvent_pins, hspd, State.startEvent_span, htenure]
    rw [← htenure]
    rfl

end Sys2Proof.Machine
end

section
/-! PROOFS. The bytes of a frame (R113), written out. -/

namespace Sys2Proof.Machine

theorem extractLsb'_zero_eq_setWidth {w : Nat} (x : BitVec w) : x.extractLsb' 0 8 = x.setWidth 8 := by
  rw [← BitVec.setWidth_ushiftRight_eq_extractLsb, BitVec.ushiftRight_zero]

theorem bytes16_eq (x : BitVec 16) : bytes16 x = [x.setWidth 8, (x >>> 8).setWidth 8] := by
  rw [bytes16, extractLsb'_zero_eq_setWidth, BitVec.setWidth_ushiftRight_eq_extractLsb]

theorem bytes32_eq (x : BitVec 32) :
    bytes32 x = [x.setWidth 8, (x >>> 8).setWidth 8, (x >>> 16).setWidth 8, (x >>> 24).setWidth 8] := by
  simp only [bytes32, extractLsb'_zero_eq_setWidth, BitVec.setWidth_ushiftRight_eq_extractLsb]

/-- A value's words, one after the other. -/
theorem toList_eq_map (v : Value) : v.toList = (List.finRange 8).map fun w => v[w] :=
  List.ext_getElem (by simp) fun n hn _ => by simp

theorem append_nibbles (a b : BitVec 4) : (a ++ b : Byte) = a.setWidth 8 <<< 4 ||| b.setWidth 8 := by
  decide +revert

/-- Byte 1: the target above the three flags. -/
theorem append_flags (target : Station) (long reclose present : Bool) :
    (target ++ (0#1 ++ BitVec.ofBool long ++ BitVec.ofBool reclose ++ BitVec.ofBool present) : Byte) =
      target.setWidth 8 <<< 4 |||
        ((if present = true then 1 else 0) + (if reclose = true then 2 else 0) + (if long = true then 4 else 0)) := by
  decide +revert

/-- Settles O46. -/
theorem frameBytesReadBack : Obligations.FrameBytesReadBack := by
  intro f hvalue two four flags covered shift crc
  have hbody : f.body = covered := by
    have hlong : (if f.long = true then valueBytes f.value else []) =
        if f.long = true then (List.finRange 8).flatMap fun w => four f.value[w] else [] := by
      rw [valueBytes_eq_flatMap, toList_eq_map, List.flatMap_map]
      simp only [bytes32_eq]
      rfl
    rw [Frame.body, append_nibbles, append_flags, bytes16_eq, bytes32_eq, hlong]
  have hcrc : crc16 f.body = crc := by
    rw [hbody]
    rfl
  refine ⟨?_, ?_, f.frameIntact_bytes, Frame.ofBytes_bytes hvalue⟩
  · rw [Frame.bytes, hcrc, hbody, bytes16_eq]
  · rw [Frame.bytes_length, Frame.body_length]
    cases f.long <;> rfl

end Sys2Proof.Machine
end

section
/-! PROOFS. Hard reset: the fall of RESET#, the station in reset, the rise of RESET#, and the laws right after it (R97, R116,
R119, R167); and the delivery of a notice (R164 to R166). -/

namespace Sys2Proof.Machine

/-! ### In reset -/

/-- While RESET# is low only its rise and the level of SPD± act (R116, R167). -/
theorem exec_of_reset {s : State} (h : s.live = false) {c : Instr} (hrelease : ∀ u straps, c ≠ .hardResetRelease u straps)
    (hstart : ∀ start, c ≠ .frameStart start) (hheard : ∀ bytes, c ≠ .frameHeard bytes) : exec c s = .next s := by
  have hevent (f : State → State) : Host.Outcome.next (s.onEvent f) = (.next s : Host.Outcome State Fault Refusal) :=
    congrArg _ (State.onEvent_of_reset h f)
  have hfollow (f : State → State) : Host.Outcome.next (s.followOn f) = (.next s : Host.Outcome State Fault Refusal) :=
    congrArg _ (State.followOn_of_reset h f)
  have hlimit (f : State → State) : Host.Outcome.next (s.limitRow f) = (.next s : Host.Outcome State Fault Refusal) :=
    congrArg _ (State.limitRow_of_reset h f)
  have hnot : ¬ s.live = true := Bool.eq_false_iff.1 h
  cases c with
  | hardResetRelease u straps => exact absurd rfl (hrelease u straps)
  | frameStart start => exact absurd rfl (hstart start)
  | frameHeard bytes => exact absurd rfl (hheard bytes)
  | hardResetAssert u => exact congrArg Host.Outcome.next (if_neg hnot)
  | putShort | putLong | pop | stat | spiUnknownCode | idleTimeout | arbitrationPoint | emptyTenureEnd
  | responseWindowClose | readyTime | deadlineExpiry | closeTimerExpiry | recloseTimerExpiry => exact hevent _
  | outboundDiscard | publishDropped | retryLimit | attemptLimit | memberSilent => exact hlimit _
  | badCommand | read | write | swap | add | delete | reserve | commit | release | fence | watch | unwatch | drop | reform
  | inboundFetchHandled | inboundUpdateHandled | noticeDelivery => exact hfollow _

theorem State.drivesSpd_iff (s : State) : s.drivesSpd = true ↔ ∃ w own, s.span.tenure = .frame w (some own) := by
  rw [State.drivesSpd]
  split
  next w own h => exact ⟨fun _ => ⟨w, own, h⟩, fun _ => rfl⟩
  next h => exact ⟨fun hh => (nomatch hh), fun ⟨w, own, hh⟩ => absurd hh (h w own)⟩

/-- Settles O5. -/
theorem resetAssertReleasesTheLines : Obligations.ResetAssertReleasesTheLines := by
  refine ⟨fun s u hlive => ?_, fun s hlive => ⟨fun c => exec_of_reset hlive, fun start => ?_, fun bytes => ?_⟩⟩
  · have hexec : exec (.hardResetAssert u) s = .next (s.assertReset u) := congrArg Host.Outcome.next (if_pos hlive)
    have hdrives : (s.advance u).drivesSpd = s.drivesSpd := rfl
    refine ⟨_, hexec, rfl, rfl, rfl, rfl, fun hdriven => ?_, fun hdriven => ?_, rfl, rfl, rfl, rfl, rfl, rfl, rfl, rfl, rfl,
      rfl⟩
    · have h : (s.advance u).drivesSpd = true := (s.drivesSpd_iff).2 hdriven
      exact ⟨if_pos h, if_pos h⟩
    · have h : ¬ (s.advance u).drivesSpd = true := (s.drivesSpd_iff).not.2 hdriven
      refine ⟨if_neg h, (if_neg h).trans ?_⟩
      change (match s.span.intruder with
        | .released t _ => t
        | .driven _ => s.pins.spdReleased
        | .absent => s.pins.spdReleased) = _
      cases s.span.intruder <;> rfl
  · have hnot : ¬ s.live = true := Bool.eq_false_iff.1 hlive
    exact congrArg Host.Outcome.next (if_neg hnot)
  · have hnot : ¬ s.live = true := Bool.eq_false_iff.1 hlive
    intro now
    have hnow : now = max s.clock (s.pins.spdSince.getD s.clock + Timing.frameTime bytes.length) := by
      rw [Timing.frameTime, ← Nat.add_assoc]
    rw [hnow]
    exact congrArg Host.Outcome.next (if_neg hnot)

/-! ### The rise of RESET# -/

/-- Settles O6. -/
theorem resetReleaseResetsEveryBlock : Obligations.ResetReleaseResetsEveryBlock := by
  intro s since u straps hlow htime
  have hexec : exec (.hardResetRelease u straps) s =
      .next (.afterReset (max s.clock u) straps s.pins.spdSince s.pins.spdReleased s.pending) := by
    rw [exec_hardResetRelease_of_low hlow, if_neg (Nat.not_lt.2 htime)]
  refine ⟨_, hexec, rfl, rfl, ?_, rfl, fun k => ⟨rfl, rfl⟩, rfl, rfl, rfl, fun g w => ?_, fun n => ?_, fun i => ⟨?_, ?_⟩, rfl,
    rfl, fun i => ?_, rfl, rfl, rfl, rfl, rfl, rfl, rfl, rfl⟩
  · cases hspd : s.pins.spdSince with
    | none => simp [State.afterReset, SpanInterface.afterReset]
    | some t => simp [State.afterReset, SpanInterface.afterReset]
  · simp [State.afterReset, CopyTable.afterReset, CopyEntry.cleared, TableRecord.cleared]
  · simp [State.afterReset, Slot.afterReset, Slot.cleared]
  · simp [State.afterReset, RequestTracker.afterReset]
  · simp [State.afterReset, RequestTracker.afterReset]
  · simp [State.afterReset, WatchUnit.afterReset, WatchEntry.cleared, Firing.cleared, TableRecord.cleared]

/-- Settles O7. -/
theorem resetStateIsLawful : Obligations.ResetStateIsLawful :=
  ⟨PortLaw.afterReset 0 0 none 0 [], .of_reset rfl, .of_reset rfl,
    .of_empty (fun i => by simp [State.reset, State.afterReset, RequestTracker.afterReset]) rfl, .of_reset rfl,
    .of_listen rfl rfl rfl rfl, .of_reset 0 0 none 0 []⟩

/-! ### The delivery of a notice -/

/-- Settles O48. -/
theorem noticeIsDeliveredIntoFreeSpace : Obligations.NoticeIsDeliveredIntoFreeSpace := by
  intro s ahead hready
  have hexec : exec (.noticeDelivery ahead) s = .next (s.deliverNotice ahead).refreshReq :=
    congrArg Host.Outcome.next (State.followOn_of_ready hready fun s => s.deliverNotice ahead)
  refine ⟨fun i rest hfired hspace => ?_, fun hnone => ?_⟩
  · have hdue : s.noticeDue = true := s.noticeDue_iff.2 ⟨hspace, by rw [hfired]; nofun⟩
    have hdeliver : s.deliverNotice ahead = { s with
        port := s.port.placeNotice s.watch.entries[i].notice ahead
        watch := { entries := s.watch.entries.set i s.watch.entries[i].delivered, fired := rest } } := by
      simp only [State.deliverNotice, if_pos hdue, hfired]
    rw [hexec, hdeliver]
    rfl
  · have hdue : ¬ s.noticeDue = true := by
      rw [s.noticeDue_iff]
      rintro ⟨hspace, hfired⟩
      exact hnone.elim hfired (Nat.not_le.2 hspace)
    rw [hexec, State.deliverNotice, if_neg hdue]

end Sys2Proof.Machine
end

section
/-! PROOFS. The REQ line (R102): no event touches it but the last of its work, which follows the transmit candidates. -/

namespace Sys2Proof.Machine

/-! ### The candidates -/

/-- The transmit candidates of R102. -/
theorem State.chooseFrame_isSome_iff (s : State) :
    s.chooseFrame.isSome = true ↔
      s.formation.reform ≠ none ∨ s.formation.roll ≠ none ∨ s.formation.close ≠ none ∨
      (∃ o rest, s.home.outbound = o :: rest ∧ o.attempts < 8) ∨
      ∃ (i : Fin 8) (e : PendingEntry), s.tracker.entries[i] = some e ∧ e.state = .queued ∧ e.readyTime ≤ s.clock ∧
        e.attempts < 8 ∧ e.retries < 16 := by
  have hhead : s.home.outboundHead.isSome = true ↔ ∃ o rest, s.home.outbound = o :: rest ∧ o.attempts < 8 := by
    cases houtbound : s.home.outbound with
    | nil => simp [HomeEngine.outboundHead, houtbound]
    | cons o rest =>
      simp only [HomeEngine.outboundHead, houtbound, List.cons.injEq, and_assoc, exists_and_left, exists_eq_left',
        ← o.candidate_iff]
      cases o.candidate <;> simp
  have hnext : (s.tracker.nextToSend s.clock).isSome = true ↔ ∃ (i : Fin 8) (e : PendingEntry),
      s.tracker.entries[i] = some e ∧ e.state = .queued ∧ e.readyTime ≤ s.clock ∧ e.attempts < 8 ∧ e.retries < 16 := by
    rw [Option.isSome_iff_ne_none, ne_eq, RequestTracker.nextToSend_eq_none_iff]
    simp only [not_forall, Bool.not_eq_false, exists_prop, PendingEntry.candidate_iff]
  rw [← hhead, ← hnext]
  cases hreform : s.formation.reform with
  | some e => simp [State.chooseFrame, hreform]
  | none =>
    cases hroll : s.formation.roll with
    | some p => simp [State.chooseFrame, hreform, hroll]
    | none =>
      cases hclose : s.formation.close with
      | some c => simp [State.chooseFrame, hreform, hroll, hclose]
      | none =>
        rw [State.chooseFrame_of_no_formation hreform hroll hclose]
        cases s.home.outboundHead with
        | some o => simp
        | none => simp

theorem State.idleHold_iff (s : State) :
    s.idleHold = true ↔ ∃ since, s.span.idleTimer = .running since ∧ since + 9950 ≤ s.clock := by
  have hlimit : Timing.idleHold = 9950 := rfl
  cases hidle : s.span.idleTimer <;> simp [State.idleHold, hidle, hlimit]

/-! ### No event touches the REQ line -/

/-- An event that leaves the REQ line to what follows the event. -/
def KeepsReq (f : State → State) : Prop := ∀ s : State, (f s).span.req = s.span.req

theorem keepsReq_idleExpires : KeepsReq State.idleExpires := fun s => by
  rw [State.idleExpires]
  split
  · dsimp only
    split <;> rfl
  · rfl
  · rfl

theorem keepsReq_arbitrate (u : Time) (req : StationSet) : KeepsReq fun s => (s.advance u).arbitrate req := fun s => by
  dsimp only [State.arbitrate]
  split
  · split <;> rfl
  · rfl

theorem keepsReq_endEmptyTenure : KeepsReq State.endEmptyTenure := fun s => by
  rw [State.endEmptyTenure.eq_def]
  split <;> rfl

theorem keepsReq_beginFrame (t : Time) (heard : Bool) : KeepsReq fun s => s.beginFrame t heard := fun s => by
  dsimp only [State.beginFrame]
  split
  · rfl
  · split
    · rfl
    · split
      · rfl
      · exact keepsReq_endEmptyTenure s
    · rfl
    · rfl
    · rfl

theorem judgeFrame_req (s : State) (winner : Option Station) (own : Option OwnFrame) (bs : List Byte) :
    (s.judgeFrame winner own bs).span.req = s.span.req := by
  rw [State.judgeFrame.eq_def]
  split
  · rfl
  · split
    · rfl
    · rw [State.answerFrame]
      split
      · split
        · split <;> rfl
        · split <;> rfl
        all_goals rfl
      · rfl

theorem keepsReq_hearFrame (bs : List Byte) : KeepsReq fun s => s.hearFrame bs := fun s => by
  dsimp only [State.hearFrame]
  split
  · split
    · exact judgeFrame_req _ _ _ _
    · rfl
  all_goals rfl

theorem setWinner_req (s : State) (winner : Option Station) (heard : Option (List Byte)) :
    (s.setWinner winner heard).span.req = s.span.req := by
  have hkeep : (s.keepWinner winner).span.req = s.span.req := by
    rw [State.keepWinner.eq_def]
    split
    · split <;> rfl
    · rfl
  rw [State.setWinner.eq_def]
  split
  · split
    · dsimp only
      split <;> rfl
    · exact hkeep
  · exact hkeep

theorem followIntruder_req (s : State) (x : Intrusion) : (s.followIntruder x).span.req = s.span.req := by
  rw [State.followIntruder.eq_def]
  split
  · rfl
  · rfl
  · rfl
  · exact judgeFrame_req _ _ _ _

theorem keepsReq_closeWindow (ack rty chk : Bool) (order : List Nat) :
    KeepsReq fun s => s.closeWindow ack rty chk order := fun s => by
  dsimp only [State.closeWindow]
  split
  next winner own heard _ =>
    rw [followIntruder_req]
    cases heard with
    | none => exact setWinner_req _ _ _
    | some bs =>
      have hworks := State.works_closeHeard (s := s.endWindow.setWinner winner (some bs)) own bs
        (s.readLines ack rty chk) order (State.setWinner_synced _ winner)
      exact (congrArg SpanInterface.req hworks.span).trans (setWinner_req _ _ _)
  · split
    · split <;> rfl
    · rfl
  · rfl
  · rfl

theorem keepsReq_spiEnds (spi : Reading) (code : Option Byte) (received : List Byte) :
    KeepsReq fun s => s.transaction spi.toTransaction fun s => s.serveCode spi code received := fun s => by
  dsimp only [State.transaction]
  split
  · rfl
  · exact congrArg SpanInterface.req (State.works_serveCode _ spi code received).span

theorem keepsReq_expireAt (i : Fin 8) : KeepsReq fun s => s.expireAt i := fun s => by
  dsimp only [State.expireAt]
  split
  · exact congrArg SpanInterface.req (State.works_deadlineAt _ i).span
  · rfl

theorem keepsReq_readyAt (i : Fin 8) : KeepsReq fun s => s.readyAt i := fun s => by
  dsimp only [State.readyAt]
  split
  · split <;> rfl
  · rfl

theorem keepsReq_closeExpires : KeepsReq State.closeExpires := fun s => by
  rw [State.closeExpires.eq_def]
  split <;> rfl

theorem keepsReq_recloseExpires : KeepsReq State.recloseExpires := fun s => by
  rw [State.recloseExpires.eq_def]
  split <;> rfl

/-! ### The REQ line after a command -/

/-- What a command but the edges of RESET# leaves of the REQ line before the line follows the candidates: it stands as
before the command, or as what followed from the event before left it. -/
theorem exec_req {c : Instr} (hassert : ∀ u, c ≠ .hardResetAssert u) (hrelease : ∀ u straps, c ≠ .hardResetRelease u straps)
    {s : State} (hlive : s.live = true) :
    ∃ u : State, exec c s = .next u.refreshReq ∧ (u.span.req = s.span.req ∨ u.span.req = s.settle.span.req) := by
  have hevent {f : State → State} (h : KeepsReq f) :
      ∃ u : State, Host.Outcome.next (s.onEvent f) = (.next u.refreshReq : Host.Outcome State Fault Refusal) ∧
        (u.span.req = s.span.req ∨ u.span.req = s.settle.span.req) :=
    ⟨_, congrArg _ (if_pos hlive), .inr (h _)⟩
  have hfollow {f : State → State} (h : ∀ s : State, s.Works (f s)) :
      ∃ u : State, Host.Outcome.next (s.followOn f) = (.next u.refreshReq : Host.Outcome State Fault Refusal) ∧
        (u.span.req = s.span.req ∨ u.span.req = s.settle.span.req) :=
    ⟨_, congrArg _ (if_pos hlive), .inl (congrArg SpanInterface.req (s.works_obeyLimits.trans (h _)).span)⟩
  have hlimit {f : State → State} (h : ∀ s : State, s.Works (f s)) :
      ∃ u : State, Host.Outcome.next (s.limitRow f) = (.next u.refreshReq : Host.Outcome State Fault Refusal) ∧
        (u.span.req = s.span.req ∨ u.span.req = s.settle.span.req) :=
    ⟨_, congrArg _ (if_pos hlive), .inl (congrArg SpanInterface.req (h s).span)⟩
  have hhead (kind : CommandKind) := hfollow fun u => u.works_atHead_serve kind
  cases c with
  | hardResetAssert u => exact absurd rfl (hassert u)
  | hardResetRelease u straps => exact absurd rfl (hrelease u straps)
  | putShort | putLong | pop | stat | spiUnknownCode => exact hevent (keepsReq_spiEnds _ _ _)
  | badCommand => exact hfollow State.works_badAtHead
  | read => exact hhead .read
  | write => exact hhead .write
  | swap => exact hhead .swap
  | add => exact hhead .add
  | delete => exact hhead .delete
  | reserve => exact hhead .reserve
  | commit => exact hhead .commit
  | release => exact hhead .release
  | fence => exact hhead .fence
  | watch => exact hhead .watch
  | unwatch => exact hhead .unwatch
  | drop => exact hhead .drop
  | reform => exact hfollow State.works_reformAtHead
  | idleTimeout => exact hevent keepsReq_idleExpires
  | arbitrationPoint u req => exact hevent (keepsReq_arbitrate u req)
  | frameStart start =>
    obtain ⟨u, hu, hreq⟩ := hevent (keepsReq_beginFrame start.time start.heard)
    exact ⟨u, (congrArg Host.Outcome.next (if_pos hlive)).trans hu, hreq⟩
  | emptyTenureEnd => exact hevent keepsReq_endEmptyTenure
  | frameHeard bytes =>
    obtain ⟨u, hu, hreq⟩ := hevent (keepsReq_hearFrame bytes)
    exact ⟨u, (congrArg Host.Outcome.next (if_pos hlive)).trans hu, hreq⟩
  | responseWindowClose ack rty chk order => exact hevent (keepsReq_closeWindow ack rty chk order)
  | outboundDiscard => exact hlimit State.works_discardHead
  | publishDropped => exact hlimit State.works_dropPublish
  | retryLimit i => exact hlimit fun u => u.works_retryLimitAt i
  | attemptLimit i => exact hlimit fun u => u.works_attemptLimitAt i
  | readyTime i => exact hevent (keepsReq_readyAt i)
  | deadlineExpiry i => exact hevent (keepsReq_expireAt i)
  | memberSilent st order => exact hlimit fun u => u.works_memberSilentAt st order
  | closeTimerExpiry => exact hevent keepsReq_closeExpires
  | recloseTimerExpiry => exact hevent keepsReq_recloseExpires
  | inboundFetchHandled => exact hfollow State.works_handleFetch
  | inboundUpdateHandled => exact hfollow State.works_handleUpdate
  | noticeDelivery ahead => exact hfollow fun u => u.works_deliverNotice ahead

/-- In the last microsecond before the idle limit a released line stays released while the events before settle. -/
theorem State.settle_req {s : State} (hhold : s.idleHold = true) (hreq : s.span.req = false) :
    s.settle.span.req = false := by
  have hround {f : State → State} (h : ∀ u : State, u.Works (f u)) {u : State}
      (hu : u.idleHold = true ∧ u.span.req = false) :
      (u.followOn f).idleHold = true ∧ (u.followOn f).span.req = false := by
    rw [State.followOn]
    split
    · obtain ⟨hclock, -, hspan, -⟩ := (u.works_obeyLimits.trans (h _)).frame
      have hheld : (f u.obeyLimits).idleHold = true := by
        rw [← hu.1, State.idleHold.eq_def, State.idleHold.eq_def, hclock, hspan]
      refine ⟨hheld, ?_⟩
      rw [State.refreshReq_req, hheld, hspan, hu.2]
      simp
    · exact hu
  exact (State.settleFor_induct (P := fun u => u.idleHold = true ∧ u.span.req = false)
    (fun u hu => hround (fun v => v.works_deliverNotice 0)
      (hround State.works_handleInbound (hround State.works_engineDue hu))) _ s ⟨hhold, hreq⟩).2

/-- Settles O4. -/
theorem requestLineFollowsCandidates : Obligations.RequestLineFollowsCandidates := by
  intro c s t hlive hexec htlive hrelease candidate
  have hassert (u : Time) : c ≠ .hardResetAssert u := by
    rintro rfl
    have hassert : exec (.hardResetAssert u) s = .next (s.assertReset u) := congrArg Host.Outcome.next (if_pos hlive)
    obtain rfl := Host.Outcome.next.inj (hassert.symm.trans hexec)
    exact nomatch htlive
  obtain ⟨u, hu, hkept⟩ := exec_req hassert hrelease hlive
  obtain rfl := Host.Outcome.next.inj (hu.symm.trans hexec)
  have hcandidate : u.chooseFrame.isSome = true ↔ candidate := u.refreshReq.chooseFrame_isSome_iff
  have hreq := u.refreshReq_req
  have hrest (h : s.atRest) : u.span.req = s.span.req := by
    rwa [State.settle_of_quiescent h.2, or_self] at hkept
  have hlive' : u.live = true := htlive
  rw [hlive', Bool.true_and] at hreq
  refine ⟨fun h => ?_, fun hsynced hc hearly => ?_, fun hlate hbefore hreleased => ?_, fun hr hasserted hsynced hc => ?_⟩
  · rw [hreq, Bool.and_eq_true, Bool.and_eq_true, hcandidate] at h
    exact h.1
  · have hhold : u.idleHold = false := by
      rw [← Bool.not_eq_true, State.idleHold_iff]
      rintro ⟨since, hsince, hle⟩
      exact absurd hle (Nat.not_le.2 (hearly since hsince))
    rw [hreq, hcandidate.2 hc, hhold, Bool.not_false, Bool.or_true, Bool.and_true, Bool.and_true]
    exact hsynced
  · have hhold : u.idleHold = true := u.idleHold_iff.2 hlate
    have hreq' : u.span.req = false := by
      rcases hbefore with hr | hheld
      · rw [hrest hr, hreleased]
      · rcases hkept with hkept | hkept
        · rw [hkept, hreleased]
        · rw [hkept, State.settle_req (s.idleHold_iff.2 hheld) hreleased]
    rw [hreq, hhold, hreq']
    simp
  · rw [hreq, hcandidate.2 hc, hrest hr, hasserted, Bool.true_or, Bool.and_true, Bool.and_true]
    exact hsynced

end Sys2Proof.Machine
end

section
/-! PROOFS. The Host Port's transactions: PUT, POP, STAT and unknown codes (chapter 10). -/

namespace Sys2Proof.Machine

/-! ### The end of a transaction -/

/-- What the Host Port showed at a moment, read at the event that ends the transaction (R168, R172, R173). -/
theorem State.eventAt_shownAt {s : State} {t : Time} {x : Sample} (h : s.showed t x) (rose : Time) :
    ((s.eventAt rose).shownAt t).status = x.status ∧ ((s.eventAt rose).shownAt t).record = x.record := by
  have hseen : (s.eventAt rose).shownAt t =
      (s.sampled.find? fun y => decide (y.since ≤ t)).getD _ := rfl
  rw [hseen, State.sampled]
  obtain ⟨hnow, hstatus, hrecord⟩ | ⟨hpast, hsince, newer, older, hsplit, hnewer⟩ := h
  · rw [List.find?_cons_of_pos (by simpa using hnow)]
    exact ⟨hstatus.symm, hrecord.symm⟩
  · have hskip : newer.find? (fun y => decide (y.since ≤ t)) = none :=
      List.find?_eq_none.2 fun y hy => by simpa using hnewer y hy
    rw [List.find?_cons_of_neg (by simpa using hpast), hsplit, List.find?_append, hskip, Option.none_or,
      List.find?_cons_of_pos (by simpa using hsince)]
    exact ⟨rfl, rfl⟩

/-- A transaction whose CS# fell before RESET# rose shifts nothing out (R167). -/
theorem State.spiEnds_ignored {s : State} (hrest : s.atRest) {spi : Reading} (hfell : spi.fell < s.pins.resetRose)
    (code : Option Byte) (received : List Byte) :
    s.spiEnds spi code received =
      ({ s.eventAt spi.rose with port := { s.port with sdo := [], fresh := 0 }, seen := [] } : State).refreshReq := by
  have hpins : (s.startEvent.advance spi.rose).pins.resetRose = s.pins.resetRose := rfl
  rw [State.spiEnds, State.onEvent_of_atRest hrest, State.transaction, hpins, if_pos hfell]
  rfl

/-- Any other transaction is served at its CS# rise, and the samples taken for it go. -/
theorem State.spiEnds_served {s : State} (hrest : s.atRest) {spi : Reading} (hfell : s.pins.resetRose ≤ spi.fell)
    (code : Option Byte) (received : List Byte) :
    s.spiEnds spi code received =
      ({ (s.eventAt spi.rose).serveCode spi code received with seen := [] } : State).refreshReq := by
  have hpins : (s.startEvent.advance spi.rose).pins.resetRose = s.pins.resetRose := rfl
  rw [State.spiEnds, State.onEvent_of_atRest hrest, State.transaction, hpins, if_neg (Nat.not_lt.2 hfell),
    State.startEvent_advance]

/-- What a transaction shifts out, behind the status byte of the fall of CS# (R168). -/
theorem State.eventAt_shiftOut {s : State} {fell : Time} {x : Sample} (h : s.showed fell x) (rose : Time)
    (record : List Byte) (clocked : Nat) :
    (s.eventAt rose).shiftOut fell record clocked =
      { s.eventAt rose with port :=
        { s.port with sdo := sdoBytes x.status record clocked, fresh := 0 } } := by
  rw [State.shiftOut, (State.eventAt_shownAt h rose).1]
  rfl

theorem sdoBytes_nil (status : Byte) (clocked : Nat) :
    sdoBytes status [] clocked = status :: List.replicate clocked 0 := by
  simp [sdoBytes]

/-- A record clocked out in part. -/
theorem sdoBytes_short (status : Byte) {record : List Byte} {clocked : Nat} (h : clocked ≤ record.length) :
    sdoBytes status record clocked = status :: record.take clocked := by
  simp [sdoBytes, Nat.sub_eq_zero_of_le h]

/-- A record clocked out whole, and zero bytes beyond it. -/
theorem sdoBytes_whole (status : Byte) {record : List Byte} {clocked : Nat} (h : record.length ≤ clocked) :
    sdoBytes status record clocked = status :: (record ++ List.replicate (clocked - record.length) 0) := by
  simp [sdoBytes, List.take_of_length_le h]

/-- The EMPTY record is zero bytes, like those beyond a record. -/
theorem sdoBytes_emptyRecord (status : Byte) (clocked : Nat) :
    sdoBytes status emptyRecord clocked = status :: List.replicate clocked 0 := by
  rw [sdoBytes, emptyRecord, List.take_replicate, List.length_replicate, ← List.replicate_add]
  congr 2
  omega

/-! ### The codes -/

section
variable (s : State) (spi : Reading) (received : List Byte)

theorem State.serveCode_three : s.serveCode spi (some 3) received =
    s.popRecord spi.fell spi.code received.length := rfl

theorem State.serveCode_four : s.serveCode spi (some 4) received =
    s.readStatus spi.fell spi.code received.length := rfl

end

/-! ### The status byte -/

theorem State.statusByte_toNat (s : State) :
    s.statusByte.toNat =
      (if s.port.commands.length < 16 ∧ s.port.completions.length + s.port.outstanding < 32 then 1 else 0) +
      (if s.port.completions = [] then 0 else 2) +
      4 * (match s.formation.state with
        | .listen => 0
        | .rolled => 1
        | .member => 2
        | .excluded => 3) := by
  have hroom : (if s.port.commands.length < 16 ∧ s.port.completions.length + s.port.outstanding < 32 then 1 else 0) =
      s.port.room.toNat := by
    rw [if_congr s.port.room_iff.symm rfl rfl]
    cases s.port.room <;> rfl
  have hattn : (if s.port.completions = [] then 0 else 2) = 2 * s.port.attn.toNat := by
    rw [HostPort.attn]
    cases s.port.completions <;> rfl
  rw [hroom, hattn, State.statusByte]
  cases s.formation.state <;> cases s.port.attn <;> cases s.port.room <;> rfl

/-- Settles O18. -/
theorem unknownCodeReturnsStatusByteOnly : Obligations.UnknownCodeReturnsStatusByteOnly := by
  refine ⟨fun s spi received => ⟨?_, ?_, ?_, ?_⟩, fun s spi code received hrest => ⟨?_, ?_, s.statusByte_toNat⟩⟩
  · rfl
  · rfl
  · change Host.Outcome.next (s.onEvent _) = .next (s.onEvent _)
    simp only [State.serveCode_three, List.length_replicate]
  · change Host.Outcome.next (s.onEvent _) = .next (s.onEvent _)
    simp only [State.serveCode_four, List.length_replicate]
  · intro hfell
    exact congrArg Host.Outcome.next (State.spiEnds_ignored hrest hfell code received)
  · intro x hx hfell hcode
    refine congrArg Host.Outcome.next ((State.spiEnds_served hrest hfell code received).trans ?_)
    rw [State.serveCode_unknown _ _ _ _ hcode, State.eventAt_shiftOut hx, sdoBytes_nil]

/-! ### PUT -/

theorem State.put_torn (s : State) (long : Bool) {length : Nat} {bs : List Byte} (h : bs.length < length) :
    s.put long length bs = { s with port := { s.port with torn := true } } := if_pos h

theorem State.put_accepted {s : State} (long : Bool) {length : Nat} {bs : List Byte} (h : length ≤ bs.length)
    (hroom : s.port.commands.length < 16 ∧ s.port.completions.length + s.port.outstanding < 32) :
    s.put long length bs = s.acceptCommand (.ofBytes long bs) := by
  rw [State.put, if_neg (Nat.not_lt.2 h), if_pos (s.port.room_iff.2 hroom)]

theorem State.put_refused {s : State} (long : Bool) {length : Nat} {bs : List Byte} (h : length ≤ bs.length)
    (hroom : ¬ (s.port.commands.length < 16 ∧ s.port.completions.length + s.port.outstanding < 32)) :
    s.put long length bs = { s with port := { s.port with putRefused := true } } := by
  rw [State.put, if_neg (Nat.not_lt.2 h), if_neg (mt s.port.room_iff.1 hroom)]

/-- A PUT of either length as the transaction that the Host Port serves (R167). -/
theorem exec_put_eq (s : State) (spi : Transaction) (record : List Byte) (long : Bool) :
    exec (if long = true then .putLong spi record else .putShort spi record) s =
      .next (s.spiEnds { spi with code := spi.rose } (some (if long = true then 2 else 1)) record) := by
  cases long <;> rfl

theorem State.serveCode_put (s : State) (spi : Reading) (record : List Byte) (long : Bool) :
    s.serveCode spi (some (if long = true then 2 else 1)) record =
      (s.shiftOut spi.fell [] record.length).put long (if long = true then 44 else 12) record := by
  cases long <;> rfl

/-- The 44 or 12 bytes of a command record, field by field (R174). -/
theorem CommandRecord.ofBytes_eq (long : Bool) (bs : List Byte) :
    let b (i : Nat) : Byte := bs.getD i 0
    let word (i : Nat) : Word := (b (i + 3) ++ b (i + 2)) ++ (b (i + 1) ++ b i)
    CommandRecord.ofBytes long bs =
      { long := long
        kind := b 0
        hostTag := b 1
        key := b 3 ++ b 2
        slot := b 4
        flags := b 5
        wordIndex := b 6
        zeroByte := b 7
        expected := word 8
        value := if long = true then Vector.ofFn fun w : Fin 8 => word (12 + 4 * w.val) else zeroValue } := by
  rw [CommandRecord.ofBytes, leValue_eq_ofFn]
  rfl

theorem State.acceptCommand_eq (s : State) (c : CommandRecord) :
    s.acceptCommand c =
      { s with
        port := { s.port with
          commands := s.port.commands ++ [c]
          outstanding := s.port.outstanding + 1 }
        engine := if s.port.commands = [] then { s.engine with headStatus := .testing } else s.engine } := by
  rw [State.acceptCommand, if_congr List.isEmpty_iff rfl rfl]

/-- Settles O15. -/
theorem putIsTornAcceptedOrRefused : Obligations.PutIsTornAcceptedOrRefused := by
  intro s spi record long hrest row size after room b word
  have hexec : exec row s =
      .next (s.spiEnds { spi with code := spi.rose } (some (if long = true then 2 else 1)) record) :=
    exec_put_eq s spi record long
  refine ⟨fun hfell => ?_, fun x hx hfell => ?_⟩
  · rw [hexec, State.spiEnds_ignored hrest (by exact hfell)]
  · have hdone : exec row s = .next
        ({ ({ s.eventAt spi.rose with
              port := { s.port with sdo := x.status :: List.replicate record.length 0, fresh := 0 } } :
            State).put long size record with seen := [] } : State).refreshReq := by
      rw [hexec, State.spiEnds_served hrest (by exact hfell), State.serveCode_put, State.eventAt_shiftOut hx,
        sdoBytes_nil]
    refine ⟨fun hlength => ?_, fun hlength hroom => ?_, fun hlength hroom => ?_⟩
    · rw [hdone, State.put_torn _ _ hlength]
    · rw [hdone, State.put_accepted _ hlength (by exact hroom), State.acceptCommand_eq, CommandRecord.ofBytes_eq]
      rfl
    · rw [hdone, State.put_refused _ hlength (by exact hroom)]

/-! ### POP -/

theorem flagByte_completion (present valid : Bool) :
    flagByte 0 present valid = (if present = true then 1 else 0) + (if valid = true then 2 else 0) := by
  decide +revert

theorem flagByte_notice (origin : Station) (present changed : Bool) :
    flagByte origin present changed =
      (if present = true then 1 else 0) + (if changed = true then 2 else 0) + origin.setWidth 8 <<< 4 := by
  decide +revert

theorem QueueRecord.bytes_length (r : QueueRecord) : r.bytes.length = 44 := by
  cases r <;> rfl

/-- A value's bytes, word by word. -/
theorem valueBytes_eq_words (v : Value) : valueBytes v = (List.finRange 8).flatMap fun w => bytes32 v[w] := by
  rw [valueBytes_eq_flatMap, toList_eq_map, List.flatMap_map]

/-- No record to return: the queue is empty, or held none at the end of the code byte (R172). -/
theorem State.popRecord_none {s : State} {code : Time} (h : s.port.completions = [] ∨ (s.shownAt code).attn = false)
    (fell : Time) (clocked : Nat) : s.popRecord fell code clocked = s.shiftOut fell emptyRecord clocked := by
  rw [State.popRecord]
  cases hc : s.port.completions with
  | nil => rfl
  | cons r rest =>
    have hattn : (s.shownAt code).attn = false := h.resolve_left (by simp [hc])
    simp only [hattn, Bool.false_eq_true, if_false]

theorem State.popRecord_short {s : State} {code : Time} {r : QueueRecord} {rest : List QueueRecord}
    (hc : s.port.completions = r :: rest) (hattn : (s.shownAt code).attn = true) {clocked : Nat} (h : clocked < 44)
    (fell : Time) : s.popRecord fell code clocked = s.shiftOut fell r.bytes clocked := by
  rw [State.popRecord, hc]
  exact (if_pos hattn).trans (if_pos h)

theorem State.popRecord_whole {s : State} {code : Time} {r : QueueRecord} {rest : List QueueRecord}
    (hc : s.port.completions = r :: rest) (hattn : (s.shownAt code).attn = true) {clocked : Nat} (h : 44 ≤ clocked)
    (fell : Time) : s.popRecord fell code clocked =
      { s.shiftOut fell r.bytes clocked with
        port := { (s.shiftOut fell r.bytes clocked).port with completions := rest } } := by
  rw [State.popRecord, hc]
  exact (if_pos hattn).trans (if_neg (Nat.not_lt.2 h))

/-- Settles O16. -/
theorem popRemovesAWholeRecord : Obligations.PopRemovesAWholeRecord := by
  intro s spi clocked code hrest after two four value bytes
  have hexec : exec (.pop spi clocked code) s =
      .next (s.spiEnds { spi with code := code } (some 3) (List.replicate clocked 0)) := rfl
  refine ⟨fun hfell => ?_, fun x y hx hy hfell => ?_⟩
  · rw [hexec, State.spiEnds_ignored hrest (by exact hfell)]
  · have hserved : exec (.pop spi clocked code) s =
        .next ({ (s.eventAt spi.rose).popRecord spi.fell code clocked with seen := [] } : State).refreshReq := by
      rw [hexec, State.spiEnds_served hrest (by exact hfell), State.serveCode_three, List.length_replicate]
    have hattn : ((s.eventAt spi.rose).shownAt code).attn = y.status.getLsbD 1 :=
      congrArg (BitVec.getLsbD · 1) (State.eventAt_shownAt hy spi.rose).1
    refine ⟨fun hnone => ?_, fun r rest hqueue hshown => ?_⟩
    · rw [hserved, State.popRecord_none (by rw [hattn]; exact hnone), State.eventAt_shiftOut hx, sdoBytes_emptyRecord]
    · have hbytes : bytes r = r.bytes := by
        cases r with
        | completion c =>
          have hvalue : (if c.value = none then (0 : Byte) else 2) = if c.value.isSome = true then 2 else 0 := by
            cases c.value <;> rfl
          rw [QueueRecord.bytes, Completion.bytes, flagByte_completion, ← hvalue, bytes16_eq, bytes32_eq,
            valueBytes_eq_words]
          simp only [bytes32_eq]
          cases h : c.outcome <;> simp only [bytes, h] <;> rfl
        | notice n =>
          rw [QueueRecord.bytes, Notice.bytes, flagByte_notice, bytes16_eq, bytes16_eq, bytes32_eq,
            valueBytes_eq_words]
          simp only [bytes32_eq]
          cases h : n.reason <;> simp only [bytes, h] <;> rfl
      have hlength : r.bytes.length = 44 := r.bytes_length
      rw [hbytes]
      refine ⟨hlength, fun hclocked => ?_, fun hclocked => ?_⟩
      · rw [hserved, State.popRecord_short (by exact hqueue) (hattn.trans hshown) hclocked,
          State.eventAt_shiftOut hx, sdoBytes_short _ (by omega)]
      · rw [hserved, State.popRecord_whole (by exact hqueue) (hattn.trans hshown) hclocked,
          State.eventAt_shiftOut hx, sdoBytes_whole _ (by omega), hlength]

/-! ### STAT -/

theorem State.readStatus_short {clocked : Nat} (h : clocked < 16) (s : State) (fell code : Time) :
    s.readStatus fell code clocked = s.shiftOut fell (s.shownAt code).record clocked := if_pos h

theorem State.readStatus_whole {clocked : Nat} (h : 16 ≤ clocked) (s : State) (fell code : Time) :
    s.readStatus fell code clocked =
      { s.shiftOut fell (s.shownAt code).record clocked with
        port := { (s.shiftOut fell (s.shownAt code).record clocked).port with putRefused := false, torn := false } } :=
  if_neg (Nat.not_lt.2 h)

/-- The adopted bitmap, bit by bit, in any station state (R137). -/
theorem FormationController.memberBitmap_getLsbD (fc : FormationController) (n : Station) :
    fc.memberBitmap.getLsbD n.toNat = true ↔ fc.state = .member ∧ ∃ m ∈ fc.members, m.station = n := by
  rw [FormationController.memberBitmap]
  split
  next h => rw [bitmapOf_getLsbD, and_iff_right h]
  next h => simp [h]

theorem FormationController.upBitmap_getLsbD (fc : FormationController) (n : Station) :
    fc.upBitmap.getLsbD n.toNat = true ↔
      fc.state = .member ∧ ∃ m ∈ fc.members, m.station = n ∧ m.health = .up := by
  rw [FormationController.upBitmap]
  split
  next h =>
    rw [bitmapOf_getLsbD, and_iff_right h]
    simp only [List.mem_filter, beq_iff_eq, and_assoc, and_comm (a := Member.health _ = .up)]
  next h => simp [h]

theorem State.flagsByte_eq (s : State) :
    s.flagsByte =
      (if s.formation.lateRoll = true then 1 else 0) + (if s.port.putRefused = true then 2 else 0) +
        (if s.port.torn = true then 4 else 0) := by
  rw [State.flagsByte]
  cases s.formation.lateRoll <;> cases s.port.putRefused <;> cases s.port.torn <;> rfl

theorem append_zero_nibble (station : Station) : (0#4 ++ station : Byte) = station.setWidth 8 := by
  decide +revert

/-- Settles O17. -/
theorem statReturnsTheStatusRecord : Obligations.StatReturnsTheStatusRecord := by
  intro s spi clocked hrest state flags after
  have hexec : exec (.stat spi clocked) s = .next (s.spiEnds spi (some 4) (List.replicate clocked 0)) := rfl
  refine ⟨⟨s.formation.memberBitmap, s.formation.upBitmap, s.formation.memberBitmap_getLsbD,
    s.formation.upBitmap_getLsbD, ?_⟩, fun hfell => ?_, fun x y hx hy hfell => ?_⟩
  · have hstate : (0#6 ++ s.formation.state.code : Byte) = state := by
      cases h : s.formation.state <;> simp only [state, h] <;> rfl
    rw [State.statusRecord, hstate, append_zero_nibble, s.flagsByte_eq, bytes16_eq, bytes16_eq]
    rfl
  · rw [hexec, State.spiEnds_ignored hrest hfell]
  · intro sdo
    have hserved : exec (.stat spi clocked) s =
        .next ({ (s.eventAt spi.rose).readStatus spi.fell spi.code clocked with seen := [] } : State).refreshReq := by
      rw [hexec, State.spiEnds_served hrest hfell, State.serveCode_four, List.length_replicate]
    have hrecord := (State.eventAt_shownAt hy spi.rose).2
    refine ⟨fun hclocked => ?_, fun hclocked => ?_⟩
    · rw [hserved, State.readStatus_short hclocked, hrecord, State.eventAt_shiftOut hx]
      rfl
    · rw [hserved, State.readStatus_whole hclocked, hrecord, State.eventAt_shiftOut hx]
      rfl

end Sys2Proof.Machine
end
